-- ==== Sys2Proof/Word.lean ====
section
/-! DEFINITION. The word types of the core (00_scope.md rule R7, rule R8): unsigned bit vectors,
bit 0 the least significant. -/

namespace Sys2Proof

/-- One byte of a frame (rule R50, rule R51). -/
abbrev Byte := BitVec 8

/-- A 16-bit value: override, sensed reading, analog output (rule R7). -/
abbrev Word16 := BitVec 16

/-- A 4-bit wraparound index (rule R23, rule R24) or a fault code (rule R76). -/
abbrev Nibble := BitVec 4

/-- An 11-bit standard CAN identifier (rule R6). -/
abbrev CanId := BitVec 11

/-- A received data field as one word, byte 0 most significant (rule R79). -/
abbrev FrameWord := BitVec 64

/-- An outbound data field as one word, byte 0 most significant (rule R79). -/
abbrev StatusWord := BitVec 48

/-- The event vector E (rule R77). -/
abbrev EventVector := BitVec 7

end Sys2Proof
end

