-- ==== Sys2Proof/Config.lean ====
section
/-! DEFINITION. The implementation parameters (00_scope.md rule R6). Those the spec marks OPEN have no
value here: the machine reads them from its state, where no step changes them (rule R61), and the
implementation's own values are an opaque constant of which only the legality is known. -/

namespace Sys2Proof

/-- The order of a receive and a tick presented in one step (rule R6, rule R204). -/
inductive SameCycleOrder where
  /-- The receive runs before the tick. -/
  | rxFirst
  /-- The tick runs before the receive. -/
  | tickFirst
  deriving DecidableEq, Repr

/-- The parameters of rule R6. -/
structure Params where
  /-- `TIMEOUT_CEILING`, OPEN (D7). -/
  timeoutCeiling : Nat
  /-- `ID_IN`, OPEN (D13). -/
  idIn : CanId
  /-- `ID_OUT`, OPEN (D13). -/
  idOut : CanId
  /-- `ESCAPE_PATTERNS`, OPEN (D15): frame words, byte 0 most significant. -/
  escapePatterns : List FrameWord
  /-- `SAME_CYCLE_ORDER`, default `RX_FIRST` (D4). -/
  sameCycleOrder : SameCycleOrder := .rxFirst
  /-- `TICK_PERIOD`, OPEN, read by no rule (D26); a count of an unnamed unit of time. -/
  tickPeriod : Nat := 1
  deriving DecidableEq, Repr

/-- The legal values of rule R6. -/
def Params.legal (p : Params) : Bool :=
  decide (1 ≤ p.timeoutCeiling) && decide (p.timeoutCeiling < 2 ^ 32) && decide (p.idOut ≠ p.idIn) &&
    decide (p.escapePatterns ≠ []) && decide p.escapePatterns.Nodup && decide (1 ≤ p.tickPeriod)

/-- Parameters together with the fact that they are legal. The defaults only show that legal parameters
exist; nothing takes them as the values of an implementation. -/
structure LegalParams where
  val : Params := { timeoutCeiling := 1, idIn := 0, idOut := 1, escapePatterns := [0] }
  legal : val.legal = true := by decide
  deriving DecidableEq, Repr, Inhabited

/-- The parameters of the implementation at hand: any legal values (rule R6; log 1, DESIGN CHOICE, safe). -/
opaque Config.implementation : LegalParams

end Sys2Proof
end

