-- ==== Sys2Proof/Syntax.lean ====
section
/-! DEFINITION. The operations of the core, one constructor per row of the operation table
(30_encoding.md section 7, opcode_table.json), and the record of input ports (10_state.md rule R31). -/

namespace Sys2Proof

/-- The receive array RX: the eight data bytes of the presented frame (20_memory.md rule R50). -/
structure RxData where
  b0 : Byte
  b1 : Byte
  b2 : Byte
  b3 : Byte
  b4 : Byte
  b5 : Byte
  b6 : Byte
  b7 : Byte
  deriving DecidableEq, Repr

/-- A presented frame: `rx_id`, `rx_dlc`, `rx_data[0..7]` (rule R31). -/
structure RxFrame where
  id : CanId
  dlc : Nibble
  data : RxData
  deriving DecidableEq, Repr

/-- The frame the receive ports show when nothing drives them (rule R80: every other input is 0). -/
def RxFrame.zero : RxFrame := ⟨0, 0, ⟨0, 0, 0, 0, 0, 0, 0, 0⟩⟩

/-- The input ports, sampled once per step (rule R31). -/
structure Inputs where
  rst : Bool := false
  ctrl : Bool := false
  adc0 : Word16 := 0
  adc1 : Word16 := 0
  rxValid : Bool := false
  rx : RxFrame := RxFrame.zero
  tick : Bool := false
  txEmpty : Bool := false
  txDone : Bool := false
  busErr : Bool := false
  deriving DecidableEq, Repr

/-- The inputs of an idle step (rule R77, rule R80). -/
def Inputs.idle : Inputs := {}

/-- The operations (30_encoding.md section 7). Each receive outcome carries the whole presented frame. -/
inductive Instr where
  /-- RESET, rule R230. -/
  | reset
  /-- CTRL, rule R170: the readings `adc0` and `adc1`. -/
  | ctrl (adc0 adc1 : Word16)
  /-- RX_OTHER_ID, rule R123. -/
  | rxOtherId (f : RxFrame)
  /-- RX_ESCAPE, rule R124. -/
  | rxEscape (f : RxFrame)
  /-- RX_BAD_CRC, rule R125. -/
  | rxBadCrc (f : RxFrame)
  /-- RX_SEQ_GAP, rule R130. -/
  | rxSeqGap (f : RxFrame)
  /-- RX_ENABLE, rule R127. -/
  | rxEnable (f : RxFrame)
  /-- RX_RELEASE, rule R128. -/
  | rxRelease (f : RxFrame)
  /-- RX_INVALID, rule R129. -/
  | rxInvalid (f : RxFrame)
  /-- TICK_SEND, rule R173. -/
  | tickSend
  /-- TICK_OVERRUN, rule R175. -/
  | tickOverrun
  /-- TX_DONE, rule R178. -/
  | txDone
  /-- BUS_ERR, rule R154. -/
  | busErr
  /-- CRC8, rule R100: the checksum function on the byte string `b`, `b[0]` first. -/
  | crc8 (b : List Byte)
  deriving DecidableEq, Repr

end Sys2Proof
end

