-- ==== Sys2Proof/Machine/Operands.lean ====
section
/-! DEFINITION. The operands of the operations: bytes and fields of the received frame (20_memory.md,
41_command_validator.md rule R122) and the tests by which a frame is sorted (rule R121). -/

namespace Sys2Proof.Machine

/-- `MemRead(RX, i, 1)` (rule R50). -/
def memReadRx (d : RxData) (i : Fin 8) : Byte :=
  match i with
  | 0 => d.b0
  | 1 => d.b1
  | 2 => d.b2
  | 3 => d.b3
  | 4 => d.b4
  | 5 => d.b5
  | 6 => d.b6
  | 7 => d.b7

/-- A 16-bit value from its wire bytes, the more significant one first (rule R52). -/
def be16 (hi lo : Byte) : Word16 := hi ++ lo

/-- Bits 15:8 of a 16-bit value, the wire byte of lower index (rule R52). -/
def hiByte (v : Word16) : Byte := v.extractLsb' 8 8

/-- Bits 7:0 of a 16-bit value, the wire byte of higher index (rule R52). -/
def loByte (v : Word16) : Byte := v.extractLsb' 0 8

/-- The word W of rule R79: RX[0] most significant. -/
def frameWord (d : RxData) : FrameWord :=
  memReadRx d 0 ++ memReadRx d 1 ++ memReadRx d 2 ++ memReadRx d 3 ++
    memReadRx d 4 ++ memReadRx d 5 ++ memReadRx d 6 ++ memReadRx d 7

/-- `value_0` (rule R122). -/
def value0 (d : RxData) : Word16 := be16 (memReadRx d 0) (memReadRx d 1)

/-- `value_1` (rule R122). -/
def value1 (d : RxData) : Word16 := be16 (memReadRx d 2) (memReadRx d 3)

/-- The sequence index `idx`: the low 4 bits of byte 4 (rule R73, rule R122). -/
def seqIndex (d : RxData) : Nibble := (memReadRx d 4).extractLsb' 0 4

/-- The checksum byte: byte 5 (rule R70, rule R122). -/
def crcField (d : RxData) : Byte := memReadRx d 5

/-- The bytes the inbound checksum covers: RX[0..4] (rule R104). -/
def coveredBytes (d : RxData) : List Byte :=
  [memReadRx d 0, memReadRx d 1, memReadRx d 2, memReadRx d 3, memReadRx d 4]

/-- `max(a, b)`: the unsigned maximum (rule R9). -/
def umax (a b : Word16) : Word16 := if a ≤ b then b else a

/-- The index after `q`, modulo 16 (rule R24, rule R126). -/
def nextIndex (q : Nibble) : Nibble := q + 1

/-- The frame is on the inbound identifier (rule R121, first test). -/
def isInbound (p : Params) (f : RxFrame) : Bool := decide (f.id = p.idIn)

/-- The data field is an escape payload (rule R71, rule R121). -/
def isEscape (p : Params) (d : RxData) : Bool := p.escapePatterns.contains (frameWord d)

/-- The least index of the matching escape pattern (rule R124); the list's length where none matches, a
value no step uses, since RX_ESCAPE is selected only when one matches (log 19). -/
def escapeIndex (p : Params) (d : RxData) : Nat := p.escapePatterns.idxOf (frameWord d)

/-- The frame is checksum-valid: byte 5 equals the checksum of bytes 0 to 4 (rule R104, rule R121). -/
def crcValid (d : RxData) : Bool := decide (crc8 (coveredBytes d) = crcField d)

/-- The frame carries the next expected index after `q` (rule R121, rule R126). -/
def isNext (q : Nibble) (d : RxData) : Bool := decide (seqIndex d = nextIndex q)

/-- Both values are zero (rule R121). -/
def valuesZero (d : RxData) : Bool := decide (value0 d = 0) && decide (value1 d = 0)

end Sys2Proof.Machine
end

