-- ==== Sys2Proof/Machine/Flags.lean ====
section
/-! DEFINITION. The one-bit quantities. The core has no flags register and no condition codes, and no
operation writes a flag as a side effect (10_state.md rule R30); what it has is the enable flag of an
inbound frame, which is not stored, and the liveness indicator. -/

namespace Sys2Proof.Machine

/-- The enable flag `en`: bit 7 of byte 4 (rule R73, rule R122). -/
def enableFlag (d : RxData) : Bool := (memReadRx d 4).getLsbD 7

/-- The liveness indicator after a tick (rule R176). -/
def invertLed (led : Bool) : Bool := !led

end Sys2Proof.Machine
end

