-- ==== Sys2Proof/WellFormed.lean ====
section
/-! DEFINITION. When an operation is one the selectors can name: a receive outcome's frame must meet that
outcome's row of the operation table (30_encoding.md section 7), at the parameters `p` and the last-seen
index `q`. -/

namespace Sys2Proof

open Machine

/-- The frame is a command frame on the inbound identifier (rule R72). -/
def isCommand (p : Params) (f : RxFrame) : Bool := isInbound p f && !isEscape p f.data

/-- The frame is a command, checksum-valid and sequence-correct: an accepted command (rule R121, glossary). -/
def isAccepted (p : Params) (q : Nibble) (f : RxFrame) : Bool :=
  isCommand p f && crcValid f.data && isNext q f.data

/-- The conditions of the operation table. Every byte string is a legal operand of CRC8 (rule R100). -/
def wellFormed (p : Params) (q : Nibble) : Instr → Bool
  | .reset => true
  | .ctrl _ _ => true
  | .rxOtherId f => !isInbound p f
  | .rxEscape f => isInbound p f && isEscape p f.data
  | .rxBadCrc f => isCommand p f && !crcValid f.data
  | .rxSeqGap f => isCommand p f && crcValid f.data && !isNext q f.data
  | .rxEnable f => isAccepted p q f && enableFlag f.data
  | .rxRelease f => isAccepted p q f && !enableFlag f.data && valuesZero f.data
  | .rxInvalid f => isAccepted p q f && !enableFlag f.data && !valuesZero f.data
  | .tickSend => true
  | .tickOverrun => true
  | .txDone => true
  | .busErr => true
  | .crc8 _ => true

end Sys2Proof
end

