-- ==== Sys2Proof/Decode.lean ====
section
/-! DEFINITION. The decoder: from the bytes of one step's inputs to the input ports, and from the ports to
the operations the step runs (30_encoding.md rule R77 and section 7, 41_command_validator.md rule R121);
and the encoder. -/

namespace Sys2Proof

open Machine

/-- Why bytes are no input record, or no single operation. -/
inductive DecodeError where
  /-- The input record has sixteen bytes. -/
  | wrongLength
  /-- The event vector has seven bits; bit 7 of its byte is set. -/
  | eventBit7
  /-- The identifier has eleven bits; a bit above them is set. -/
  | identifierTooWide
  /-- The data length code has four bits; a bit above them is set. -/
  | dlcTooWide
  /-- An idle step: no strobe is set (rule R77). -/
  | noOperation
  /-- More than one operation is selected (rule R77). -/
  | severalOperations
  deriving DecidableEq, Repr

/-- The event vector of the ports (rule R77): E[6:0] = tx_empty, rst, bus_err, tx_done, tick, rx_valid, ctrl. -/
def eventVector (n : Inputs) : EventVector :=
  BitVec.ofBool n.txEmpty ++ BitVec.ofBool n.rst ++ BitVec.ofBool n.busErr ++ BitVec.ofBool n.txDone ++
    BitVec.ofBool n.tick ++ BitVec.ofBool n.rxValid ++ BitVec.ofBool n.ctrl

/-- The sixteen bytes of an input record: the event vector; the frame word W from its most significant
byte; then identifier, data length code and the two readings, each from its most significant byte. The
spec numbers the event vector (rule R77) and W (rule R79); the order of the rest is the model's
(log 7, DESIGN CHOICE). -/
def pack (n : Inputs) : List Byte :=
  [(eventVector n).setWidth 8,
    n.rx.data.b0, n.rx.data.b1, n.rx.data.b2, n.rx.data.b3, n.rx.data.b4, n.rx.data.b5, n.rx.data.b6, n.rx.data.b7,
    (n.rx.id.extractLsb' 8 3).setWidth 8, n.rx.id.extractLsb' 0 8, n.rx.dlc.setWidth 8,
    hiByte n.adc0, loByte n.adc0, hiByte n.adc1, loByte n.adc1]

/-- The ports that sixteen bytes denote. -/
def unpack : List Byte → Except DecodeError Inputs
  | [e, d0, d1, d2, d3, d4, d5, d6, d7, i1, i0, l, a1, a0, c1, c0] =>
    if e.getLsbD 7 then .error .eventBit7
    else if i1.extractLsb' 3 5 ≠ 0 then .error .identifierTooWide
    else if l.extractLsb' 4 4 ≠ 0 then .error .dlcTooWide
    else .ok
      { ctrl := e.getLsbD 0, rxValid := e.getLsbD 1, tick := e.getLsbD 2, txDone := e.getLsbD 3,
        busErr := e.getLsbD 4, rst := e.getLsbD 5, txEmpty := e.getLsbD 6,
        rx := ⟨i1.extractLsb' 0 3 ++ i0, l.extractLsb' 0 4, ⟨d0, d1, d2, d3, d4, d5, d6, d7⟩⟩,
        adc0 := be16 a1 a0, adc1 := be16 c1 c0 }
  | _ => .error .wrongLength

/-- The outcome a presented frame is sorted into: the first test that holds (rule R121). -/
def classify (p : Params) (q : Nibble) (f : RxFrame) : Instr :=
  if !isInbound p f then .rxOtherId f
  else if isEscape p f.data then .rxEscape f
  else if !crcValid f.data then .rxBadCrc f
  else if !isNext q f.data then .rxSeqGap f
  else if enableFlag f.data then .rxEnable f
  else if valuesZero f.data then .rxRelease f
  else .rxInvalid f

/-- The tick form that `tx_empty` selects (rule R172). -/
def tickOperation (txEmpty : Bool) : Instr := if txEmpty then .tickSend else .tickOverrun

/-- A receive and a tick, each if its strobe is set; `SAME_CYCLE_ORDER` is read only where both are (rule R204). -/
def receiveAndTick (p : Params) (q : Nibble) (n : Inputs) : List Instr :=
  match n.rxValid, n.tick with
  | false, false => []
  | true, false => [classify p q n.rx]
  | false, true => [tickOperation n.txEmpty]
  | true, true =>
    match p.sameCycleOrder with
    | .rxFirst => [classify p q n.rx, tickOperation n.txEmpty]
    | .tickFirst => [tickOperation n.txEmpty, classify p q n.rx]

/-- The operations a step's inputs select, in the order in which they run (rule R77, rule R204, rule R231). -/
def operations (p : Params) (q : Nibble) (n : Inputs) : List Instr :=
  if n.rst then [.reset]
  else
    (if n.ctrl then [.ctrl n.adc0 n.adc1] else []) ++ receiveAndTick p q n ++
      (if n.txDone then [.txDone] else []) ++ (if n.busErr then [.busErr] else [])

/-- The one operation that the bytes select at parameters `p` and last-seen index `q`. -/
def decode (p : Params) (q : Nibble) (bytes : List Byte) : Except DecodeError Instr :=
  match unpack bytes with
  | .error e => .error e
  | .ok n =>
    match operations p q n with
    | [] => .error .noOperation
    | [i] => .ok i
    | _ => .error .severalOperations

/-- The ports that select exactly one operation, every other input 0 (rule R80). CRC8 is selected by no
event (rule R100), so it has none. -/
def portsOf : Instr → Option Inputs
  | .reset => some { rst := true }
  | .ctrl a0 a1 => some { ctrl := true, adc0 := a0, adc1 := a1 }
  | .rxOtherId f => some { rxValid := true, rx := f }
  | .rxEscape f => some { rxValid := true, rx := f }
  | .rxBadCrc f => some { rxValid := true, rx := f }
  | .rxSeqGap f => some { rxValid := true, rx := f }
  | .rxEnable f => some { rxValid := true, rx := f }
  | .rxRelease f => some { rxValid := true, rx := f }
  | .rxInvalid f => some { rxValid := true, rx := f }
  | .tickSend => some { tick := true, txEmpty := true }
  | .tickOverrun => some { tick := true, txEmpty := false }
  | .txDone => some { txDone := true }
  | .busErr => some { busErr := true }
  | .crc8 _ => none

/-- The bytes of an operation that an event selects. -/
def encode (i : Instr) : Option (List Byte) := (portsOf i).map pack

/-- The sixteen bytes of a number, bit 0 the least significant bit of the first byte; bits at or above
`nbits` read as 0. -/
def bytesOfWord (nbits w : Nat) : List Byte :=
  (List.range 16).map fun k => BitVec.ofNat 8 ((w % 2 ^ nbits) >>> (8 * k))

/-- The word has no bit beyond the sixteen bytes of an input record. -/
def wordFits (nbits w : Nat) : Bool := decide (w % 2 ^ nbits < 2 ^ 128)

/-- The operation this decoder reads from a word numbered as the operation table numbers it: the event
vector in bits 6:0. The parameters are the implementation's and the last-seen index is that of reset
(log 23). -/
def decodeTableWord (nbits w : Nat) : Option Instr :=
  if wordFits nbits w then
    match decode Config.implementation.val 0 (bytesOfWord nbits w) with
    | .ok i => some i
    | .error _ => none
  else none

end Sys2Proof
end

