-- ==== Sys2Proof/Machine/State.lean ====
section
/-! DEFINITION. The state of the machine: the spec's state record S (10_state.md rule R20), the pulse
outputs of the last step (rule R32), the parameters, and the input records still to come. -/

namespace Sys2Proof.Machine

/-- The fault state: exactly one of seven (rule R21, rule R150). Codes 7 to 15 are never held (rule R81). -/
inductive FaultState where
  | noFault
  | badChecksum
  | sendFailure
  | busError
  | startup
  | timeout
  | invalidCommand
  deriving DecidableEq, Repr

/-- The transmit array TX: the six data bytes of the outbound frame (20_memory.md rule R51). -/
structure TxData where
  b0 : Byte
  b1 : Byte
  b2 : Byte
  b3 : Byte
  b4 : Byte
  b5 : Byte
  deriving DecidableEq, Repr

/-- The idle value of `tx_data` (rule R32). -/
def TxData.zero : TxData := ⟨0, 0, 0, 0, 0, 0⟩

/-- The pulse outputs and their data (rule R32). -/
structure Pulses where
  /-- `rx_ack`. -/
  rxAck : Bool
  /-- `tx_valid`. -/
  txValid : Bool
  /-- `tx_data[0..5]`. -/
  txData : TxData
  /-- `dac_we`. -/
  dacWe : Bool
  /-- `wdt_feed`. -/
  wdtFeed : Bool
  /-- `escape_req`. -/
  escapeReq : Bool
  /-- `escape_sel`, an index into `ESCAPE_PATTERNS` (D36). -/
  escapeSel : Nat
  deriving DecidableEq, Repr

/-- Every pulse output at its idle value (rule R32). -/
def Pulses.idle : Pulses :=
  { rxAck := false, txValid := false, txData := TxData.zero, dacWe := false, wdtFeed := false,
    escapeReq := false, escapeSel := 0 }

/-- The whole state. -/
structure State where
  /-- `fault` (rule R21). -/
  fault : FaultState
  /-- `ovr0` (rule R22). -/
  ovr0 : Word16
  /-- `ovr1` (rule R22). -/
  ovr1 : Word16
  /-- `last_seq` (rule R23). -/
  lastSeq : Nibble
  /-- `tx_idx` (rule R24). -/
  txIdx : Nibble
  /-- `to_cnt` (rule R25): a count, whose width is not observable. -/
  toCnt : Nat
  /-- `pos0` (rule R26). -/
  pos0 : Word16
  /-- `pos1` (rule R26). -/
  pos1 : Word16
  /-- `dac0` (rule R27). -/
  dac0 : Word16
  /-- `dac1` (rule R27). -/
  dac1 : Word16
  /-- `led` (rule R28). -/
  led : Bool
  /-- The pulse outputs of the last step (rule R32). -/
  pulses : Pulses
  /-- The input records of the coming steps, first one first; past the list every step is idle (log 3). -/
  inputs : List Inputs
  /-- The parameters (00_scope.md rule R6), which no operation writes (rule R61). -/
  params : Params
  /-- The model's own field: the byte the last CRC8 operation returned (log 5). -/
  crcResult : Byte
  deriving DecidableEq, Repr

/-- Why the machine would stop with a fault. It has no constructor: no operation traps or aborts the core
(60_exceptions.md rule R200), and the step function never faults, hangs or refuses (rule R202). The faults
of the spec are values of the field `fault`, with which the machine goes on (rule R206). Nothing raises
one, which is safe (log 9). -/
inductive Fault where
  deriving DecidableEq, Repr

/-- Why the machine has no meaning for an operation. -/
inductive Refusal where
  /-- Raised by the dispatch for an operation without a meaning yet; safe. No arm raises it now. -/
  | notModelled (mnemonic : String)
  deriving DecidableEq, Repr

/-- The machine right after a reset step (70_reset_and_hazards.md rule R230, rule R232), with the parameters of the
implementation and no input presented. -/
def State.reset : State :=
  { fault := .startup, ovr0 := 0, ovr1 := 0, lastSeq := 0, txIdx := 0, toCnt := 0, pos0 := 0, pos1 := 0,
    dac0 := 0, dac1 := 0, led := false, pulses := Pulses.idle, inputs := [],
    params := Config.implementation.val, crcResult := 0 }

end Sys2Proof.Machine
end

