-- ==== Sys2Proof/Machine/Ops.lean ====
section
/-! DEFINITION. The named operations over the state that the meanings share. -/

namespace Sys2Proof.Machine

/-! ## The fault register -/

/-- `raise Fault(code)`: the one way a fault is recorded. It writes the fault register and nothing else; no
saved state, no mode, no vector (00_scope.md rule R10, 60_exceptions.md rule R206). -/
def raiseFault (c : FaultState) (s : State) : State := { s with fault := c }

/-- The way back from a fault state, the write of `no_fault` that RX_RELEASE makes (60_exceptions.md rule R207). -/
def clearFault (s : State) : State := { s with fault := .noFault }

/-- The 4-bit fault codes (30_encoding.md rule R76; the spec's decision D5). -/
def faultCode : FaultState → Nibble
  | .noFault => 0
  | .badChecksum => 1
  | .sendFailure => 2
  | .busError => 3
  | .startup => 4
  | .timeout => 5
  | .invalidCommand => 6

/-! ## The registers of the validator -/

/-- Writes both override registers (rule R22). -/
def writeOverrides (v0 v1 : Word16) (s : State) : State := { s with ovr0 := v0, ovr1 := v1 }

/-- Writes the last-seen index (rule R126). -/
def recordSeq (q : Nibble) (s : State) : State := { s with lastSeq := q }

/-- Sets the timeout counter to zero (rule R25). -/
def restartTimeout (s : State) : State := { s with toCnt := 0 }

/-- `Out.rx_ack <- 1`: the frame is released back to the receive queue (rule R120). -/
def ackFrame (s : State) : State := { s with pulses := { s.pulses with rxAck := true } }

/-- `Out.escape_req <- 1` with the index of the pattern (rule R124). -/
def requestEscape (k : Nat) (s : State) : State :=
  { s with pulses := { s.pulses with escapeReq := true, escapeSel := k } }

/-! ## The output arbiter -/

/-- Latches the sensed readings (rule R26, rule R170). -/
def latchPositions (a0 a1 : Word16) (s : State) : State := { s with pos0 := a0, pos1 := a1 }

/-- Writes both analog channels and pulses `dac_we` (rule R27, rule R170). -/
def driveDacs (d0 d1 : Word16) (s : State) : State :=
  { s with dac0 := d0, dac1 := d1, pulses := { s.pulses with dacWe := true } }

/-- The value of an analog channel: the maximum of reading and override while the state is `no_fault`, the
reading otherwise (rule R170). -/
def arbitrate (fault : FaultState) (reading override : Word16) : Word16 :=
  if fault = .noFault then umax reading override else reading

/-- `Out.wdt_feed <- 1` (rule R171). -/
def feedWatchdog (s : State) : State := { s with pulses := { s.pulses with wdtFeed := true } }

/-! ## The transmitter and the tick -/

/-- `MemWrite(TX, i, 1, v)` (rule R51). -/
def memWriteTx (i : Fin 6) (v : Byte) (t : TxData) : TxData :=
  match i with
  | 0 => { t with b0 := v }
  | 1 => { t with b1 := v }
  | 2 => { t with b2 := v }
  | 3 => { t with b3 := v }
  | 4 => { t with b4 := v }
  | 5 => { t with b5 := v }

/-- The outbound status byte: fault code in bits 7:4, transmit index in bits 3:0 (rule R75). -/
def statusByte (fault : FaultState) (idx : Nibble) : Byte :=
  ((faultCode fault).setWidth 8 <<< 4) ||| idx.setWidth 8

/-- The six bytes of a status frame whose first five are given: the sixth is their checksum (rule R174). -/
def sealFrame (f0 f1 f2 f3 f4 : Byte) : TxData := ⟨f0, f1, f2, f3, f4, crc8 [f0, f1, f2, f3, f4]⟩

/-- `status_frame(S)` (rule R174). -/
def statusFrame (s : State) : TxData :=
  sealFrame (hiByte s.pos0) (loByte s.pos0) (hiByte s.pos1) (loByte s.pos1) (statusByte s.fault s.txIdx)

/-- The word T of rule R79: TX[0] most significant. -/
def statusWord (t : TxData) : StatusWord := t.b0 ++ t.b1 ++ t.b2 ++ t.b3 ++ t.b4 ++ t.b5

/-- All six bytes of TX written in one step, from byte 0 on (rule R173, rule R51). -/
def writeTx (f t : TxData) : TxData :=
  memWriteTx 5 f.b5 (memWriteTx 4 f.b4 (memWriteTx 3 f.b3 (memWriteTx 2 f.b2 (memWriteTx 1 f.b1 (memWriteTx 0 f.b0 t)))))

/-- The frame is handed over: TX written and `Out.tx_valid <- 1` (rule R173). -/
def sendFrame (f : TxData) (s : State) : State :=
  { s with pulses := { s.pulses with txValid := true, txData := writeTx f s.pulses.txData } }

/-- The transmit index after a frame is handed over, modulo 16 (rule R24, rule R173). -/
def advanceTxIdx (s : State) : State := { s with txIdx := nextIndex s.txIdx }

/-- Liveness part of every tick (rule R176). -/
def toggleLed (s : State) : State := { s with led := invertLed s.led }

/-- The advance of the timeout counter, saturating at the ceiling (rule R177; the spec's decision D7). -/
def advanceTimeout (s : State) : State := { s with toCnt := min (s.toCnt + 1) s.params.timeoutCeiling }

/-- `timeout` is raised if the counter is at the ceiling, and the fault state stays as it is otherwise (rule R177). -/
def checkTimeout (s : State) : State :=
  raiseFault (if s.toCnt = s.params.timeoutCeiling then .timeout else s.fault) s

/-- Timeout part of every tick: advance, then compare (rule R177). -/
def timeoutPart (s : State) : State := checkTimeout (advanceTimeout s)

/-- The two parts that follow the transmit part on every tick, in the order of rule R172. -/
def finishTick (s : State) : State := timeoutPart (toggleLed s)

/-! ## Reset, the start of a step, and the output ports -/

/-- Every field of S at its reset value (rule R230). The pulse outputs are idle already (rule R232). -/
def resetRegisters (s : State) : State :=
  { s with fault := .startup, ovr0 := 0, ovr1 := 0, lastSeq := 0, txIdx := 0, toCnt := 0,
           pos0 := 0, pos1 := 0, dac0 := 0, dac1 := 0, led := false }

/-- The inputs of the next step: the next record, or none of the strobes where no record is left (log 3). -/
def nextInputs (s : State) : Inputs := s.inputs.headD Inputs.idle

/-- The start of a step: its record is consumed and every pulse output is idle (rule R202). -/
def beginStep (s : State) : State := { s with inputs := s.inputs.tail, pulses := Pulses.idle }

/-- The output ports of rule R32. -/
structure Outputs where
  rxAck : Bool
  txValid : Bool
  txId : CanId
  txDlc : Nibble
  txData : TxData
  dac0 : Word16
  dac1 : Word16
  dacWe : Bool
  wdtFeed : Bool
  led : Bool
  escapeReq : Bool
  escapeSel : Nat
  faultOut : Nibble
  deriving DecidableEq, Repr

/-- What the output ports show after a step: the pulses of the step, the registered outputs from the
end-of-step state, and the constants `ID_OUT` and 6 (rule R32, rule R202). -/
def State.outputs (s : State) : Outputs :=
  { rxAck := s.pulses.rxAck, txValid := s.pulses.txValid, txId := s.params.idOut, txDlc := 6,
    txData := s.pulses.txData, dac0 := s.dac0, dac1 := s.dac1, dacWe := s.pulses.dacWe,
    wdtFeed := s.pulses.wdtFeed, led := s.led, escapeReq := s.pulses.escapeReq,
    escapeSel := s.pulses.escapeSel, faultOut := faultCode s.fault }

end Sys2Proof.Machine
end

