-- ==== Sys2Proof/Machine/Arbiter.lean ====
section
/-! DEFINITION. One control-loop iteration: the output arbiter (43_arbiter_transmitter.md section 1). -/

namespace Sys2Proof.Machine

/-- CTRL (rule R170, rule R171): latch the readings, drive both channels, feed the watchdog. -/
def execCtrl (adc0 adc1 : Word16) (s : State) : Host.Outcome State Fault Refusal :=
  let latched := latchPositions adc0 adc1 s
  let driven :=
    driveDacs (arbitrate latched.fault adc0 latched.ovr0) (arbitrate latched.fault adc1 latched.ovr1) latched
  .next (feedWatchdog driven)

end Sys2Proof.Machine
end

