-- ==== Sys2Proof/Machine/BusEvents.lean ====
section
/-! DEFINITION. The transmit-complete and the bus-error event (43_arbiter_transmitter.md section 3,
42_fault_state_machine.md section 2). -/

namespace Sys2Proof.Machine

/-- TX_DONE (rule R178): no effect on S and no output. -/
def execTxDone (s : State) : Host.Outcome State Fault Refusal := .next s

/-- BUS_ERR (rule R154): `bus_error`, from every state. -/
def execBusErr (s : State) : Host.Outcome State Fault Refusal := .next (raiseFault .busError s)

end Sys2Proof.Machine
end

