-- ==== Sys2Proof/Machine/Checksum.lean ====
section
/-! DEFINITION. The checksum function as an operation of its own (40_checksum.md rule R100). -/

namespace Sys2Proof.Machine

/-- CRC8 (rule R100): it reads and writes no state of the core; its result is left in the model's own
result field (log 5). -/
def execCrc8 (b : List Byte) (s : State) : Host.Outcome State Fault Refusal :=
  .next { s with crcResult := crc8 b }

end Sys2Proof.Machine
end

