-- ==== Sys2Proof/Machine/Receive.lean ====
section
/-! DEFINITION. The seven outcomes of a received frame (41_command_validator.md section 2). Each is the
pseudocode of its rule, for a frame sorted into that outcome (rule R121). -/

namespace Sys2Proof.Machine

/-- RX_OTHER_ID (rule R123): acknowledged, nothing else. The frame is not read. -/
def execRxOtherId (_f : RxFrame) (s : State) : Host.Outcome State Fault Refusal := .next (ackFrame s)

/-- RX_ESCAPE (rule R124): the request with the least matching index; no register is written. -/
def execRxEscape (f : RxFrame) (s : State) : Host.Outcome State Fault Refusal :=
  .next (ackFrame (requestEscape (escapeIndex s.params f.data) s))

/-- RX_BAD_CRC (rule R125): `bad_checksum`; the frame is discarded. -/
def execRxBadCrc (_f : RxFrame) (s : State) : Host.Outcome State Fault Refusal :=
  .next (ackFrame (raiseFault .badChecksum s))

/-- RX_SEQ_GAP (rule R130): only the last-seen index follows the frame. -/
def execRxSeqGap (f : RxFrame) (s : State) : Host.Outcome State Fault Refusal :=
  .next (ackFrame (recordSeq (seqIndex f.data) s))

/-- What every accepted command ends with: the timeout counter at zero, the index recorded, the frame
acknowledged (rule R126, rule R127, rule R128, rule R129). -/
def acceptCommand (f : RxFrame) (s : State) : State :=
  ackFrame (recordSeq (seqIndex f.data) (restartTimeout s))

/-- RX_ENABLE (rule R127): both values become the overrides; the fault state is not written. -/
def execRxEnable (f : RxFrame) (s : State) : Host.Outcome State Fault Refusal :=
  .next (acceptCommand f (writeOverrides (value0 f.data) (value1 f.data) s))

/-- RX_RELEASE (rule R128): the fault state returns to `no_fault`, the overrides to zero. -/
def execRxRelease (f : RxFrame) (s : State) : Host.Outcome State Fault Refusal :=
  .next (acceptCommand f (writeOverrides 0 0 (clearFault s)))

/-- RX_INVALID (rule R129): `invalid_command`; the overrides are zeroed all the same. -/
def execRxInvalid (f : RxFrame) (s : State) : Host.Outcome State Fault Refusal :=
  .next (acceptCommand f (writeOverrides 0 0 (raiseFault .invalidCommand s)))

end Sys2Proof.Machine
end

