-- ==== Sys2Proof/Machine/Tick.lean ====
section
/-! DEFINITION. The two forms of a timer tick (43_arbiter_transmitter.md section 2): a transmit part, then
the liveness part, then the timeout part (rule R172). -/

namespace Sys2Proof.Machine

/-- TICK_SEND (rule R173): the frame is built from the state as the tick finds it, then the index advances. -/
def execTickSend (s : State) : Host.Outcome State Fault Refusal :=
  .next (finishTick (advanceTxIdx (sendFrame (statusFrame s) s)))

/-- TICK_OVERRUN (rule R175): `send_failure`, no frame. -/
def execTickOverrun (s : State) : Host.Outcome State Fault Refusal :=
  .next (finishTick (raiseFault .sendFailure s))

end Sys2Proof.Machine
end

