-- ==== Sys2Proof/Machine/Dispatch.lean ====
section
/-! DEFINITION. One arm per operation of the operation table. -/

namespace Sys2Proof.Machine

def exec (i : Instr) (s : State) : Host.Outcome State Fault Refusal :=
  match i with
  | .reset => Sys2Proof.Machine.execReset s
  | .ctrl adc0 adc1 => Sys2Proof.Machine.execCtrl adc0 adc1 s
  | .rxOtherId f => Sys2Proof.Machine.execRxOtherId f s
  | .rxEscape f => Sys2Proof.Machine.execRxEscape f s
  | .rxBadCrc f => Sys2Proof.Machine.execRxBadCrc f s
  | .rxSeqGap f => Sys2Proof.Machine.execRxSeqGap f s
  | .rxEnable f => Sys2Proof.Machine.execRxEnable f s
  | .rxRelease f => Sys2Proof.Machine.execRxRelease f s
  | .rxInvalid f => Sys2Proof.Machine.execRxInvalid f s
  | .tickSend => Sys2Proof.Machine.execTickSend s
  | .tickOverrun => Sys2Proof.Machine.execTickOverrun s
  | .txDone => Sys2Proof.Machine.execTxDone s
  | .busErr => Sys2Proof.Machine.execBusErr s
  | .crc8 b => Sys2Proof.Machine.execCrc8 b s

end Sys2Proof.Machine
end

