-- ==== Sys2Proof/Machine/Sequence.lean ====
section
/-! DEFINITION. One step's operations run one after another (60_exceptions.md rule R202 to rule R205),
and the placing of a word as the next input record. -/

namespace Sys2Proof.Machine

/-- The next operation sees what the one before it left; a stop ends the step (rule R203). -/
def andThen (o : Host.Outcome State Fault Refusal) (f : State → Host.Outcome State Fault Refusal) :
    Host.Outcome State Fault Refusal :=
  match o with
  | .next s => f s
  | .fault r => .fault r
  | .refused r => .refused r

/-- An operation that runs if its strobe is set. -/
def runIf (strobe : Bool) (f : State → Host.Outcome State Fault Refusal) (s : State) :
    Host.Outcome State Fault Refusal :=
  if strobe then f s else .next s

/-- The presented frame, sorted against the state as the operations before it left it (rule R121, rule R203). -/
def runReceive (n : Inputs) (s : State) : Host.Outcome State Fault Refusal :=
  exec (classify s.params s.lastSeq n.rx) s

/-- The tick (rule R172). -/
def runTick (n : Inputs) (s : State) : Host.Outcome State Fault Refusal := exec (tickOperation n.txEmpty) s

/-- Receive and tick, each if its strobe is set, in the order of `SAME_CYCLE_ORDER` where both are (rule R204). -/
def runReceiveAndTick (n : Inputs) (s : State) : Host.Outcome State Fault Refusal :=
  match n.rxValid, n.tick with
  | false, false => .next s
  | true, false => runReceive n s
  | false, true => runTick n s
  | true, true =>
    match s.params.sameCycleOrder with
    | .rxFirst => andThen (runReceive n s) (runTick n)
    | .tickFirst => andThen (runTick n s) (runReceive n)

/-- The body of `step(S, In)` (rule R202): RESET alone, or CTRL, receive and tick, TX_DONE, BUS_ERR. -/
def runEvents (n : Inputs) (s : State) : Host.Outcome State Fault Refusal :=
  if n.rst then exec .reset s
  else
    andThen (runIf n.ctrl (exec (.ctrl n.adc0 n.adc1)) s) fun s1 =>
      andThen (runReceiveAndTick n s1) fun s2 =>
        andThen (runIf n.txDone (exec .txDone) s2) (runIf n.busErr (exec .busErr))

/-- One step on the next input record. -/
def runStep (s : State) : Host.Outcome State Fault Refusal := runEvents (nextInputs s) (beginStep s)

/-- Operations in sequence (rule R203). -/
def runAll : List Instr → State → Host.Outcome State Fault Refusal
  | [], s => .next s
  | i :: is, s => andThen (exec i s) (runAll is)

/-- The input ports that a word presents; a word that is no input record presents no strobe. -/
def portsOfWord (nbits w : Nat) : Inputs :=
  if wordFits nbits w then
    match unpack (bytesOfWord nbits w) with
    | .ok n => n
    | .error _ => Inputs.idle
  else Inputs.idle

/-- The state with the ports `n` presented in its next step (log 10). -/
def presentNext (n : Inputs) (s : State) : State := { s with inputs := n :: s.inputs.tail }

end Sys2Proof.Machine
end

