-- ==== Sys2Proof/Machine/Step.lean ====
section
/-! DEFINITION. One step of the core (60_exceptions.md rule R202). -/

namespace Sys2Proof.Machine

/-- One step: the operations that the next input record selects (rule R202). -/
def step (s : State) : Host.Outcome State Fault Refusal := runStep s

/-- The state whose next step is presented the inputs that the word stands for: the event vector in bits 6:0 (log 10). -/
def State.withFetchWord (s : State) (nbits w : Nat) : State := presentNext (portsOfWord nbits w) s

end Sys2Proof.Machine
end

