-- ==== Sys2Proof/Safety.lean ====
section
/-! DEFINITION. What a safe state is and what a frame is, in the terms claims use. The frame predicates are
written out over the bytes, apart from the decoder's own tests. -/

namespace Sys2Proof

open Machine

/-- The fields hold legal values (10_state.md rule R20): the counter is at most the ceiling (rule R25), the
parameters are legal (00_scope.md rule R6). The widths of the other fields are in their types. -/
def LegalState (s : State) : Prop := s.params.legal = true ∧ s.toCnt ≤ s.params.timeoutCeiling

/-- Neither analog channel is below the sensed reading latched with it (43_arbiter_transmitter.md rule R170). -/
def OutputCoversReading (s : State) : Prop := s.pos0 ≤ s.dac0 ∧ s.pos1 ≤ s.dac1

/-- Two states that agree in everything but the override registers, which may differ only while the fault
state is not `no_fault`. -/
def SameButStaleOverrides (s t : State) : Prop :=
  t = { s with ovr0 := t.ovr0, ovr1 := t.ovr1 } ∧ (s.fault = .noFault → t.ovr0 = s.ovr0 ∧ t.ovr1 = s.ovr1)

/-- A command frame on the inbound identifier: its data field is no escape payload (30_encoding.md rule R72). -/
def CommandFrame (p : Params) (f : RxFrame) : Prop :=
  f.id = p.idIn ∧
    (f.data.b0 ++ f.data.b1 ++ f.data.b2 ++ f.data.b3 ++ f.data.b4 ++ f.data.b5 ++ f.data.b6 ++ f.data.b7 : FrameWord) ∉
      p.escapePatterns

/-- Byte 5 is the checksum of bytes 0 to 4 (40_checksum.md rule R104). -/
def ChecksumValid (d : RxData) : Prop := crc8 [d.b0, d.b1, d.b2, d.b3, d.b4] = d.b5

/-- The low 4 bits of byte 4 are the index after `q`, modulo 16 (41_command_validator.md rule R126). -/
def SequenceCorrect (q : Nibble) (d : RxData) : Prop := (d.b4.extractLsb' 0 4).toNat = (q.toNat + 1) % 16

/-- A checksum-valid, sequence-correct command frame (00_scope.md, glossary). -/
def AcceptedFrame (p : Params) (q : Nibble) (f : RxFrame) : Prop :=
  CommandFrame p f ∧ ChecksumValid f.data ∧ SequenceCorrect q f.data

/-- Bytes 0 to 3, the two values, are all zero. -/
def ZeroValues (d : RxData) : Prop := d.b0 = 0 ∧ d.b1 = 0 ∧ d.b2 = 0 ∧ d.b3 = 0

/-- How many records of a list present a tick. -/
def tickCount (ns : List Inputs) : Nat := (ns.filter (·.tick)).length

/-- The core run for as many steps as `ns` has records, with `ns` presented. -/
def runOn (ns : List Inputs) (s : State) : Host.Outcome State Fault Refusal :=
  Sys2Proof.core.run ns.length { s with inputs := ns }

end Sys2Proof
end

