-- ==== Sys2Proof/Certificates/Slice0/Obligations.lean ====
section
/-! DEFINITION. The statements. Operations first (what each leaves, all of it, so its frame too), then the
checksum, the decoder, the step, and the rules about the whole machine. -/

open Sys2Proof Sys2Proof.Machine

/-! ## The operations -/

/-- RESET writes every field of S and nothing else. `startup` is the source's; the zeros are the spec's
decisions D8 to D12 (log 2). -/
def Obligations.ResetOperationWritesEveryRegister : Prop :=
  ∀ s : State, exec .reset s =
    .next { s with
      fault := .startup, ovr0 := 0, ovr1 := 0, lastSeq := 0, txIdx := 0, toCnt := 0, pos0 := 0, pos1 := 0
      dac0 := 0, dac1 := 0, led := false }

/-- The state after reset: the values of the reset operation (the spec's decisions D8 to D12, log 2), every
pulse output idle, `fault_out` at code 4 (decision D5 for the code, log 12, and D30 for the output, log 4), no
input presented (log 3), and parameters that are legal by 00_scope.md section 4 (log 1). -/
def Obligations.ResetStateHoldsResetValues : Prop :=
  exec .reset State.reset = .next State.reset ∧ State.reset.pulses = Pulses.idle ∧
    State.reset.outputs.faultOut = 4 ∧ State.reset.outputs.dac0 = 0 ∧ State.reset.outputs.dac1 = 0 ∧
    State.reset.outputs.led = false ∧ State.reset.inputs = [] ∧ State.reset.params.legal = true

/-- CTRL (43_arbiter_transmitter.md section 1) latches both readings and drives each channel with the unsigned
maximum of its own reading and override while the state is `no_fault`, with the reading otherwise. That it is
the first operation of a step whose `ctrl` strobe is set is the spec's decision D4 (log 8). -/
def Obligations.ControlLoopLatchesAndDrives : Prop :=
  (∀ (p : Params) (q : Nibble) (n : Inputs), n.rst = false → n.ctrl = true →
    (operations p q n).head? = some (.ctrl n.adc0 n.adc1)) ∧
  ∀ (a0 a1 : Word16) (s : State), exec (.ctrl a0 a1) s =
    .next { s with
      pos0 := a0, pos1 := a1
      dac0 := if s.fault = .noFault ∧ a0.toNat < s.ovr0.toNat then s.ovr0 else a0
      dac1 := if s.fault = .noFault ∧ a1.toNat < s.ovr1.toNat then s.ovr1 else a1
      pulses := { s.pulses with dacWe := true, wdtFeed := true } }

/-- A frame on another identifier is acknowledged and otherwise ignored (the spec's decisions D13, D35). -/
def Obligations.ForeignFrameIsOnlyAcknowledged : Prop :=
  (∀ (p : Params) (q : Nibble) (n : Inputs), n.rst = false → n.rxValid = true → n.rx.id ≠ p.idIn →
    .rxOtherId n.rx ∈ operations p q n) ∧
  ∀ (f : RxFrame) (s : State), exec (.rxOtherId f) s = .next { s with pulses := { s.pulses with rxAck := true } }

/-- An escape frame requests the least matching pattern, is acknowledged, and writes no register (the
spec's decisions D15, D34, D35). It wins over a valid command with the same bytes. -/
def Obligations.EscapeFrameRequestsLeastPattern : Prop :=
  (∀ (p : Params) (q : Nibble) (n : Inputs), n.rst = false → n.rxValid = true → n.rx.id = p.idIn →
    ¬ CommandFrame p n.rx → .rxEscape n.rx ∈ operations p q n) ∧
  ∀ (f : RxFrame) (s : State) (k : Nat),
    s.params.escapePatterns[k]? =
      some (f.data.b0 ++ f.data.b1 ++ f.data.b2 ++ f.data.b3 ++ f.data.b4 ++ f.data.b5 ++ f.data.b6 ++ f.data.b7) →
    (∀ j < k, s.params.escapePatterns[j]? ≠
      some (f.data.b0 ++ f.data.b1 ++ f.data.b2 ++ f.data.b3 ++ f.data.b4 ++ f.data.b5 ++ f.data.b6 ++ f.data.b7)) →
    exec (.rxEscape f) s =
      .next { s with pulses := { s.pulses with escapeReq := true, escapeSel := k, rxAck := true } }

/-- Rule R125: a command frame whose checksum does not match raises `bad_checksum`, is acknowledged, and
writes nothing else, whatever the fault state was. -/
def Obligations.BadChecksumRaisesAndDiscards : Prop :=
  (∀ (p : Params) (q : Nibble) (n : Inputs), n.rst = false → n.rxValid = true → CommandFrame p n.rx →
    ¬ ChecksumValid n.rx.data → .rxBadCrc n.rx ∈ operations p q n) ∧
  ∀ (f : RxFrame) (s : State), exec (.rxBadCrc f) s =
    .next { s with fault := .badChecksum, pulses := { s.pulses with rxAck := true } }

/-- A checksum-valid frame with another index than the next expected one (a duplicate, a jump, an
out-of-sequence release) writes the last-seen index and nothing else (41_command_validator.md section 2).
That the timeout counter is among the unchanged is an inference which the spec marks as its own there. -/
def Obligations.SequenceGapOnlyRecordsIndex : Prop :=
  (∀ (p : Params) (q : Nibble) (n : Inputs), n.rst = false → n.rxValid = true → CommandFrame p n.rx →
    ChecksumValid n.rx.data → ¬ SequenceCorrect q n.rx.data → .rxSeqGap n.rx ∈ operations p q n) ∧
  ∀ (f : RxFrame) (s : State), exec (.rxSeqGap f) s =
    .next { s with lastSeq := f.data.b4.extractLsb' 0 4, pulses := { s.pulses with rxAck := true } }

/-- Rule R127: an accepted command with bit 7 of byte 4 set writes both values, whatever they are, restarts
the timeout counter and records the index; the fault state is not written. -/
def Obligations.EnableWritesOverrides : Prop :=
  (∀ (p : Params) (q : Nibble) (n : Inputs), n.rst = false → n.rxValid = true → AcceptedFrame p q n.rx →
    n.rx.data.b4.getLsbD 7 = true → .rxEnable n.rx ∈ operations p q n) ∧
  ∀ (f : RxFrame) (s : State), exec (.rxEnable f) s =
    .next { s with
      ovr0 := f.data.b0 ++ f.data.b1, ovr1 := f.data.b2 ++ f.data.b3, toCnt := 0
      lastSeq := f.data.b4.extractLsb' 0 4, pulses := { s.pulses with rxAck := true } }

/-- Rule R128: an accepted command with the enable flag clear and both values zero returns the fault state to
`no_fault` from every state, zeroes the overrides, restarts the timeout counter, records the index; no
other operation clears the fault state. -/
def Obligations.ReleaseClearsFaultAndOverrides : Prop :=
  (∀ (p : Params) (q : Nibble) (n : Inputs), n.rst = false → n.rxValid = true → AcceptedFrame p q n.rx →
    n.rx.data.b4.getLsbD 7 = false → ZeroValues n.rx.data → .rxRelease n.rx ∈ operations p q n) ∧
  (∀ (f : RxFrame) (s : State), exec (.rxRelease f) s =
    .next { s with
      fault := .noFault, ovr0 := 0, ovr1 := 0, toCnt := 0
      lastSeq := f.data.b4.extractLsb' 0 4, pulses := { s.pulses with rxAck := true } }) ∧
  ∀ (i : Instr) (s t : State), exec i s = .next t → s.fault ≠ .noFault → t.fault = .noFault →
    ∃ f, i = .rxRelease f

/-- Rule R129: an accepted command with the enable flag clear and a nonzero value raises `invalid_command`
and still zeroes the overrides, restarts the timeout counter and records the index. -/
def Obligations.InvalidReleaseRaisesAndZeroes : Prop :=
  (∀ (p : Params) (q : Nibble) (n : Inputs), n.rst = false → n.rxValid = true → AcceptedFrame p q n.rx →
    n.rx.data.b4.getLsbD 7 = false → ¬ ZeroValues n.rx.data → .rxInvalid n.rx ∈ operations p q n) ∧
  ∀ (f : RxFrame) (s : State), exec (.rxInvalid f) s =
    .next { s with
      fault := .invalidCommand, ovr0 := 0, ovr1 := 0, toCnt := 0
      lastSeq := f.data.b4.extractLsb' 0 4, pulses := { s.pulses with rxAck := true } }

/-- A tick that finds the transmitter empty: the frame from the state the tick finds, the index (that a frame
handed over counts as queued is the spec's decision D22, log 2), then the liveness part, then the timeout part
with its decision D7 (advance with saturation, then compare; log 13). -/
def Obligations.TickSendHandsOverFrameAndAdvances : Prop :=
  ∀ s : State, exec .tickSend s =
    .next { s with
      txIdx := s.txIdx + 1
      led := !s.led
      toCnt := min (s.toCnt + 1) s.params.timeoutCeiling
      fault := if s.params.timeoutCeiling ≤ s.toCnt + 1 then .timeout else s.fault
      pulses := { s.pulses with
        txValid := true
        txData :=
          ⟨s.pos0.extractLsb' 8 8, s.pos0.extractLsb' 0 8, s.pos1.extractLsb' 8 8, s.pos1.extractLsb' 0 8,
            faultCode s.fault ++ s.txIdx,
            crc8 [s.pos0.extractLsb' 8 8, s.pos0.extractLsb' 0 8, s.pos1.extractLsb' 8 8, s.pos1.extractLsb' 0 8,
              faultCode s.fault ++ s.txIdx]⟩ } }

/-- A tick that finds the previous transmission not complete: `send_failure`, no frame, the transmit index
unchanged; then the liveness part, then the timeout part with decision D7 (log 13), which overwrites the fault. -/
def Obligations.TickOverrunRaisesSendFailure : Prop :=
  ∀ s : State, exec .tickOverrun s =
    .next { s with
      led := !s.led
      toCnt := min (s.toCnt + 1) s.params.timeoutCeiling
      fault := if s.params.timeoutCeiling ≤ s.toCnt + 1 then .timeout else .sendFailure }

/-- The transmit-complete event has no effect (the spec's decision D18). -/
def Obligations.TransmitCompleteChangesNothing : Prop := ∀ s : State, exec .txDone s = .next s

/-- The bus-error event writes `bus_error` from every state. That it writes nothing else is the spec's decision
D19 (log 2); that it is the last operation of its step is its decision D4 (log 8). -/
def Obligations.BusErrorIsForcedLast : Prop :=
  (∀ (p : Params) (q : Nibble) (n : Inputs), n.rst = false → n.busErr = true →
    (operations p q n).getLast? = some .busErr) ∧
  ∀ s : State, exec .busErr s = .next { s with fault := .busError }

/-- The checksum operation leaves the checksum in the model's own result field (log 5), touches no state of
the core, and is selected by no event (log 6). -/
def Obligations.ChecksumOperationReturnsItsResult : Prop :=
  (∀ (b : List Byte) (s : State), exec (.crc8 b) s = .next { s with crcResult := crc8 b }) ∧
  ∀ (p : Params) (q : Nibble) (n : Inputs) (b : List Byte), .crc8 b ∉ operations p q n

/-! ## The checksum -/

/-- Rule R100: the register starts at 0xFF; the byte of highest index is taken first (so prefixing a byte
takes it last); each byte is XORed in and shifted eight times, with the polynomial 0xD5 where bit 7 falls
out; nothing follows. -/
def Obligations.ChecksumFollowsItsShiftRegister : Prop :=
  crc8 [] = 0xFF#8 ∧
  ∀ (x : Byte) (bs : List Byte), crc8 (x :: bs) =
    (fun c : Byte => if c.getLsbD 7 then (c <<< 1) ^^^ 0xD5#8 else c <<< 1)^[8] (crc8 bs ^^^ x)

/-- The table form of the checksum agrees with the definition on every byte string. -/
def Obligations.ChecksumTableAgrees : Prop := ∀ bs : List Byte, crc8ByTable bs = crc8 bs

/-- The checksum is affine: on strings of one length, the checksum of the bytewise XOR is the XOR of the
checksums and that of the all-zero string. -/
def Obligations.ChecksumIsAffine : Prop :=
  ∀ a b : List Byte, a.length = b.length →
    crc8 (List.zipWith (· ^^^ ·) a b) = crc8 a ^^^ crc8 b ^^^ crc8 (List.replicate a.length 0)

/-- Every error of one or two flipped bits in bytes 0 to 5 of a checksum-valid frame makes it invalid (`i` and
`j` equal: one bit). Bit 47 is bit 7 of byte 0. -/
def Obligations.OneAndTwoBitErrorsAreDetected : Prop :=
  ∀ (d : RxData) (i j : Fin 48), ChecksumValid d →
    let e : BitVec 48 := (1#48 <<< i.val) ||| (1#48 <<< j.val)
    ¬ ChecksumValid
      { d with
        b0 := d.b0 ^^^ e.extractLsb' 40 8, b1 := d.b1 ^^^ e.extractLsb' 32 8, b2 := d.b2 ^^^ e.extractLsb' 24 8
        b3 := d.b3 ^^^ e.extractLsb' 16 8, b4 := d.b4 ^^^ e.extractLsb' 8 8, b5 := d.b5 ^^^ e.extractLsb' 0 8 }

/-! ## The encodings -/

/-- Words written out from rule R77's event vector and rule R70's layout decode to their operations. The
order of the bytes after the event vector is the model's (log 7). -/
def Obligations.WrittenOutWordsDecode : Prop :=
  let p : Params := { timeoutCeiling := 3, idIn := 0x200, idOut := 0x201, escapePatterns := [0xCEFAADDE1E0BB00A] }
  let z : List Byte := [0, 0, 0, 0, 0, 0, 0, 0]
  let id : List Byte := [0x02, 0x00, 8]
  decode p 0 ([0x20] ++ z ++ z.tail) = .ok .reset ∧
  decode p 0 ([0x01] ++ z ++ [0, 0, 0] ++ [0x01, 0x02, 0xA0, 0xB0]) = .ok (.ctrl 0x0102 0xA0B0) ∧
  decode p 0 ([0x44] ++ z ++ z.tail) = .ok .tickSend ∧
  decode p 0 ([0x04] ++ z ++ z.tail) = .ok .tickOverrun ∧
  decode p 0 ([0x08] ++ z ++ z.tail) = .ok .txDone ∧
  decode p 0 ([0x10] ++ z ++ z.tail) = .ok .busErr ∧
  decode p 15 ([0x02] ++ [0x00, 0x64, 0x00, 0x32, 0x80, 0x6E, 0, 0] ++ id ++ [0, 0, 0, 0]) =
    .ok (.rxEnable ⟨0x200, 8, ⟨0x00, 0x64, 0x00, 0x32, 0x80, 0x6E, 0, 0⟩⟩) ∧
  decode p 0 ([0x02] ++ [0, 0, 0, 0, 0x01, 0x1F, 0, 0] ++ id ++ [0, 0, 0, 0]) =
    .ok (.rxRelease ⟨0x200, 8, ⟨0, 0, 0, 0, 0x01, 0x1F, 0, 0⟩⟩) ∧
  decode p 0 ([0x03] ++ z ++ z.tail) = .error .severalOperations ∧
  decode p 0 ([0x40] ++ z ++ z.tail) = .error .noOperation

/-- Every record of input ports survives packing into its sixteen bytes. -/
def Obligations.PackedPortsUnpack : Prop := ∀ n : Inputs, unpack (pack n) = .ok n

/-- Decoding the bytes of a well-formed operation gives it back, with every operand; and every operation but
CRC8, which no event selects (log 6), has bytes. -/
def Obligations.DecodeInvertsEncode : Prop :=
  (∀ (p : Params) (q : Nibble) (i : Instr) (bytes : List Byte),
    wellFormed p q i = true → encode i = some bytes → decode p q bytes = .ok i) ∧
  ∀ i : Instr, (encode i).isSome = true ∨ ∃ b, i = .crc8 b

/-- A frame is sorted into exactly one outcome, the first test that holds (the identifier test is the spec's
decision D13). -/
def Obligations.ClassificationTakesTheFirstTest : Prop :=
  ∀ (p : Params) (q : Nibble) (f : RxFrame),
    (classify p q f = .rxOtherId f ↔ f.id ≠ p.idIn) ∧
    (classify p q f = .rxEscape f ↔ f.id = p.idIn ∧ ¬ CommandFrame p f) ∧
    (classify p q f = .rxBadCrc f ↔ CommandFrame p f ∧ ¬ ChecksumValid f.data) ∧
    (classify p q f = .rxSeqGap f ↔ CommandFrame p f ∧ ChecksumValid f.data ∧ ¬ SequenceCorrect q f.data) ∧
    (classify p q f = .rxEnable f ↔ AcceptedFrame p q f ∧ f.data.b4.getLsbD 7 = true) ∧
    (classify p q f = .rxRelease f ↔ AcceptedFrame p q f ∧ f.data.b4.getLsbD 7 = false ∧ ZeroValues f.data) ∧
    (classify p q f = .rxInvalid f ↔ AcceptedFrame p q f ∧ f.data.b4.getLsbD 7 = false ∧ ¬ ZeroValues f.data)

/-- The event vector has the strobes and the transmit-empty level at the bits of 30_encoding.md section 6 (the
spec's decision D3). -/
def Obligations.EventVectorBits : Prop :=
  ∀ n : Inputs,
    (eventVector n).getLsbD 0 = n.ctrl ∧ (eventVector n).getLsbD 1 = n.rxValid ∧ (eventVector n).getLsbD 2 = n.tick ∧
    (eventVector n).getLsbD 3 = n.txDone ∧ (eventVector n).getLsbD 4 = n.busErr ∧ (eventVector n).getLsbD 5 = n.rst ∧
    (eventVector n).getLsbD 6 = n.txEmpty

/-- The fields of a command frame, as bits of the word W: value_0 W[63:48], value_1 W[47:32], en W[31],
seq W[27:24], crc W[23:16]. The numbering of W is the spec's decision D27. -/
def Obligations.CommandFieldsStandInTheWord : Prop :=
  ∀ d : RxData,
    (frameWord d).extractLsb' 48 16 = value0 d ∧ (frameWord d).extractLsb' 32 16 = value1 d ∧
    (frameWord d).getLsbD 31 = enableFlag d ∧ (frameWord d).extractLsb' 24 4 = seqIndex d ∧
    (frameWord d).extractLsb' 16 8 = crcField d ∧
    value0 d = d.b0 ++ d.b1 ∧ value1 d = d.b2 ++ d.b3 ∧ enableFlag d = d.b4.getLsbD 7 ∧
    seqIndex d = d.b4.extractLsb' 0 4 ∧ crcField d = d.b5

/-- The seven fault codes, which `fault_out` shows in every state (the spec's decisions D5, log 12, and D30), and
the status frame on the wire as bits of the word T: pos0 T[47:32], pos1 T[31:16], fault T[15:12], tx_idx
T[11:8], and the checksum of the first five bytes in T[7:0]. The clear top bit of the status byte follows from
the codes; the numbering of T is decision D27. -/
def Obligations.StatusFieldsStandInTheWord : Prop :=
  (faultCode .noFault = 0 ∧ faultCode .badChecksum = 1 ∧ faultCode .sendFailure = 2 ∧ faultCode .busError = 3 ∧
    faultCode .startup = 4 ∧ faultCode .timeout = 5 ∧ faultCode .invalidCommand = 6) ∧
  ∀ s : State, s.outputs.faultOut = faultCode s.fault ∧ ∃ t, exec .tickSend s = .next t ∧
    (statusWord t.pulses.txData).extractLsb' 32 16 = s.pos0 ∧ (statusWord t.pulses.txData).extractLsb' 16 16 = s.pos1 ∧
    (statusWord t.pulses.txData).extractLsb' 12 4 = faultCode s.fault ∧
    (statusWord t.pulses.txData).extractLsb' 8 4 = s.txIdx ∧ (statusWord t.pulses.txData).getLsbD 15 = false ∧
    (statusWord t.pulses.txData).extractLsb' 0 8 =
      crc8 [t.pulses.txData.b0, t.pulses.txData.b1, t.pulses.txData.b2, t.pulses.txData.b3, t.pulses.txData.b4]

/-- Rule R174: the six bytes of the status frame, and that they carry neither the overrides nor the analog
outputs: those may be anything. -/
def Obligations.StatusFrameEchoesRawPosition : Prop :=
  ∀ (s : State) (o0 o1 d0 d1 : Word16),
    ∃ t, exec .tickSend { s with ovr0 := o0, ovr1 := o1, dac0 := d0, dac1 := d1 } = .next t ∧
      t.pulses.txData.b0 = s.pos0.extractLsb' 8 8 ∧ t.pulses.txData.b1 = s.pos0.extractLsb' 0 8 ∧
      t.pulses.txData.b2 = s.pos1.extractLsb' 8 8 ∧ t.pulses.txData.b3 = s.pos1.extractLsb' 0 8 ∧
      t.pulses.txData.b4 = ((faultCode s.fault).setWidth 8 <<< 4) ||| s.txIdx.setWidth 8 ∧
      t.pulses.txData.b5 =
        crc8 [t.pulses.txData.b0, t.pulses.txData.b1, t.pulses.txData.b2, t.pulses.txData.b3, t.pulses.txData.b4]

/-! ## The step -/

/-- When the presented inputs decode to the operation `i`, a step is `i` run on the state with its record
consumed and every pulse output idle. -/
def Obligations.StepRunsTheDecodedOperation : Prop :=
  ∀ (s : State) (n : Inputs) (r : List Inputs) (bytes : List Byte) (i : Instr),
    s.inputs = n :: r → unpack bytes = .ok n → decode s.params s.lastSeq bytes = .ok i →
    step s = exec i { s with inputs := r, pulses := Pulses.idle }

/-- A word placed as the next input is what the next step runs. -/
def Obligations.PlacedWordRunsNext : Prop :=
  ∀ (s : State) (nbits w : Nat) (i : Instr),
    w % 2 ^ nbits < 2 ^ 128 → decode s.params s.lastSeq (bytesOfWord nbits w) = .ok i →
    step (s.withFetchWord nbits w) = exec i { s with inputs := s.inputs.tail, pulses := Pulses.idle }

/-- Whatever strobes are set, a step runs the selected operations one after another, in the order CTRL, then
receive and tick in SAME_CYCLE_ORDER, then TX_DONE, then BUS_ERR, or RESET alone (the spec's decisions D1, D2, D4). -/
def Obligations.StepRunsItsOperationsInOrder : Prop :=
  (∀ s : State, step s =
    runAll (operations s.params s.lastSeq (nextInputs s)) { s with inputs := s.inputs.tail, pulses := Pulses.idle }) ∧
  ∀ (p : Params) (q : Nibble) (n : Inputs), operations p q n =
    if n.rst then [.reset]
    else
      (if n.ctrl then [.ctrl n.adc0 n.adc1] else []) ++
      (if p.sameCycleOrder = .rxFirst ∧ n.rxValid then [classify p q n.rx] else []) ++
      (if n.tick then [if n.txEmpty then .tickSend else .tickOverrun] else []) ++
      (if p.sameCycleOrder = .tickFirst ∧ n.rxValid then [classify p q n.rx] else []) ++
      (if n.txDone then [.txDone] else []) ++ (if n.busErr then [.busErr] else [])

/-- A step answers a next state in every state (a property the spec marks as derived): the machine never
faults, hangs or refuses. -/
def Obligations.EveryStepAnswersNext : Prop := ∀ s : State, ∃ t, step s = .next t

/-- A step with no strobe, presented or because no input is left (log 3), changes no register and drives no
pulse output (the spec's decisions D3, D25). -/
def Obligations.IdleStepChangesNothing : Prop :=
  ∀ s : State,
    (nextInputs s).rst = false → (nextInputs s).ctrl = false → (nextInputs s).rxValid = false →
    (nextInputs s).tick = false → (nextInputs s).txDone = false → (nextInputs s).busErr = false →
    step s = .next { s with inputs := s.inputs.tail, pulses := Pulses.idle }

/-- A reset step ignores every other strobe, leaves the reset values and drives no pulse output (the spec's
decision D2; the values are decisions D8 to D12). -/
def Obligations.ResetOverridesEveryOtherEvent : Prop :=
  ∀ s : State, (nextInputs s).rst = true →
    step s = .next { s with
      fault := .startup, ovr0 := 0, ovr1 := 0, lastSeq := 0, txIdx := 0, toCnt := 0, pos0 := 0, pos1 := 0
      dac0 := 0, dac1 := 0, led := false, inputs := s.inputs.tail, pulses := Pulses.idle }

/-- A bus error decides the fault state of its step, and nothing else about it: every other effect is that of
the same step without it (its place in the step is the spec's decision D4, log 8; that it writes only the
fault state is decision D19, log 2). -/
def Obligations.BusErrorWinsItsStep : Prop :=
  ∀ (s : State) (n : Inputs) (r : List Inputs), s.inputs = n :: r → n.rst = false → n.busErr = true →
    ∃ t, step { s with inputs := { n with busErr := false } :: r } = .next t ∧
      step s = .next { t with fault := .busError }

/-- A release and a tick in one step at a ceiling of 1 show the order: receive first ends in `timeout` with
the counter at 1, tick first in `no_fault` with the counter at 0. The order is the spec's decision D4 (log 8);
that a tick advances the counter and then compares it is decision D7 (log 13). -/
def Obligations.SameCycleOrderDecidesReleaseAgainstTick : Prop :=
  ∀ (s : State) (n : Inputs) (r : List Inputs), s.inputs = n :: r → s.params.timeoutCeiling = 1 →
    n.rst = false → n.busErr = false → n.rxValid = true → n.tick = true →
    AcceptedFrame s.params s.lastSeq n.rx → n.rx.data.b4.getLsbD 7 = false → ZeroValues n.rx.data →
    ∃ t, step s = .next t ∧
      (s.params.sameCycleOrder = .rxFirst → t.fault = .timeout ∧ t.toCnt = 1) ∧
      (s.params.sameCycleOrder = .tickFirst → t.fault = .noFault ∧ t.toCnt = 0)

/-! ## Rules about the whole machine -/

/-- Each writer of the fault state writes its own fixed code, the previous state unread; every other operation
leaves the fault state alone (42_fault_state_machine.md section 2). The two tick clauses, `timeout` where the
counter ends at the ceiling and then over `send_failure`, rest on the spec's decision D7 (log 13). -/
def Obligations.FaultWritersWriteFixedCodes : Prop :=
  ∀ (i : Instr) (s : State), ∃ t, exec i s = .next t ∧
    match i with
    | .rxBadCrc _ => t.fault = .badChecksum
    | .rxRelease _ => t.fault = .noFault
    | .rxInvalid _ => t.fault = .invalidCommand
    | .busErr => t.fault = .busError
    | .reset => t.fault = .startup
    | .tickOverrun => t.fault = if t.toCnt = s.params.timeoutCeiling then .timeout else .sendFailure
    | .tickSend => t.fault = if t.toCnt = s.params.timeoutCeiling then .timeout else s.fault
    | .ctrl _ _ | .rxOtherId _ | .rxEscape _ | .rxSeqGap _ | .rxEnable _ | .txDone | .crc8 _ => t.fault = s.fault

/-- Rule R153: a step enters `no_fault` only when it is presented the release command: on the inbound
identifier, not an escape frame, checksum-valid, sequence-correct, enable flag clear, both values zero. -/
def Obligations.OnlyReleaseReachesNoFault : Prop :=
  ∀ s t : State, step s = .next t → s.fault ≠ .noFault → t.fault = .noFault →
    (nextInputs s).rst = false ∧ (nextInputs s).rxValid = true ∧
      AcceptedFrame s.params s.lastSeq (nextInputs s).rx ∧ (nextInputs s).rx.data.b4.getLsbD 7 = false ∧
      ZeroValues (nextInputs s).rx.data

/-- `startup` is entered only by reset (a property the spec marks as derived). -/
def Obligations.StartupIsEnteredOnlyByReset : Prop :=
  ∀ s t : State, step s = .next t → t.fault = .startup → s.fault = .startup ∨ (nextInputs s).rst = true

/-- Rule R126: every checksum-valid command frame ends with its index as the last-seen index, which for a
sequence-correct frame is the old index plus 1 modulo 16; a frame on another identifier, an escape frame and
a frame with a bad checksum leave the index alone. -/
def Obligations.LastSeenIndexFollowsValidFrames : Prop :=
  ∀ (s : State) (f : RxFrame), ∃ t, exec (classify s.params s.lastSeq f) s = .next t ∧
    (CommandFrame s.params f ∧ ChecksumValid f.data → t.lastSeq = f.data.b4.extractLsb' 0 4) ∧
    (AcceptedFrame s.params s.lastSeq f → t.lastSeq.toNat = (s.lastSeq.toNat + 1) % 16) ∧
    (¬ (CommandFrame s.params f ∧ ChecksumValid f.data) → t.lastSeq = s.lastSeq)

/-- The override registers change only by an enabled or a release command or by reset; no fault and no other
frame touches them. What each of the four writes, their own statements say. -/
def Obligations.OverridesChangeOnlyByAcceptedCommands : Prop :=
  ∀ s t : State, step s = .next t →
    (nextInputs s).rst = true ∨
    ((nextInputs s).rxValid = true ∧ AcceptedFrame s.params s.lastSeq (nextInputs s).rx) ∨
    (t.ovr0 = s.ovr0 ∧ t.ovr1 = s.ovr1)

/-- The transmit index goes up by one, modulo 16, in exactly the steps that hand a frame over; the frame carries
the index from before; a tick that finds the transmitter busy leaves it (10_state.md section 2). That a frame
is successfully queued when it is handed over is the spec's decision D22 (log 2). -/
def Obligations.TransmitIndexCountsFrames : Prop :=
  ∀ s t : State, step s = .next t → (nextInputs s).rst = false →
    (t.pulses.txValid = true →
      t.txIdx.toNat = (s.txIdx.toNat + 1) % 16 ∧ t.pulses.txData.b4.extractLsb' 0 4 = s.txIdx) ∧
    (t.pulses.txValid = false → t.txIdx = s.txIdx) ∧
    ((nextInputs s).tick = true → (nextInputs s).txEmpty = false → t.txIdx = s.txIdx)

/-- TX is written only by a tick that finds the transmitter empty, which drives `tx_valid` in the same step; the
identifier is ID_OUT and the DLC 6; in every other step TX shows its idle value. That a reset step runs no tick
is the spec's decision D2, the idle value its decision D21 (log 2). -/
def Obligations.FrameIsSentExactlyByAnIdleTransmitterTick : Prop :=
  ∀ s t : State, step s = .next t →
    t.outputs.txValid = ((nextInputs s).tick && (nextInputs s).txEmpty && !(nextInputs s).rst) ∧
    t.outputs.txId = s.params.idOut ∧ t.outputs.txDlc = 6 ∧
    (t.outputs.txValid = false → t.outputs.txData = TxData.zero)

/-- Rule R176: both tick forms invert the liveness indicator, and no operation reads it for anything else: with
another indicator every operation leaves the same state but for the indicator. -/
def Obligations.EveryTickTogglesLiveness : Prop :=
  (∀ s : State, (∃ t, exec .tickSend s = .next t ∧ t.led = !s.led) ∧
    ∃ t, exec .tickOverrun s = .next t ∧ t.led = !s.led) ∧
  ∀ (i : Instr) (s t : State) (b : Bool), exec i s = .next t →
    ∃ c, exec i { s with led := b } = .next { t with led := c }

/-- The watchdog is fed in exactly the steps that run a control-loop iteration, in every fault state
(43_arbiter_transmitter.md section 1). That a reset step runs none is the spec's decision D2 (log 2). -/
def Obligations.WatchdogIsFedExactlyByTheControlLoop : Prop :=
  ∀ s t : State, step s = .next t → t.outputs.wdtFeed = ((nextInputs s).ctrl && !(nextInputs s).rst)

/-- Every frame presented outside a reset step is acknowledged, whatever its outcome (the spec's decision
D35), and nothing else is. That a reset step runs no receive is its decision D2 (log 2). -/
def Obligations.EveryFrameIsAcknowledged : Prop :=
  ∀ s t : State, step s = .next t → t.outputs.rxAck = ((nextInputs s).rxValid && !(nextInputs s).rst)

/-- The analog outputs and the latched readings change only at a control-loop iteration, which reads the fault
state and the overrides as the previous step left them (a property the spec marks as derived; the order is
its decision D4). -/
def Obligations.AnalogOutputChangesOnlyAtTheControlLoop : Prop :=
  ∀ s t : State, step s = .next t → (nextInputs s).rst = false →
    ((nextInputs s).ctrl = false →
      t.dac0 = s.dac0 ∧ t.dac1 = s.dac1 ∧ t.pos0 = s.pos0 ∧ t.pos1 = s.pos1 ∧ t.outputs.dacWe = false) ∧
    ((nextInputs s).ctrl = true →
      t.pos0 = (nextInputs s).adc0 ∧ t.pos1 = (nextInputs s).adc1 ∧ t.outputs.dacWe = true ∧
      (s.fault ≠ .noFault → t.dac0 = (nextInputs s).adc0 ∧ t.dac1 = (nextInputs s).adc1) ∧
      (s.fault = .noFault →
        t.dac0.toNat = max (nextInputs s).adc0.toNat s.ovr0.toNat ∧
        t.dac1.toNat = max (nextInputs s).adc1.toNat s.ovr1.toNat))

/-- Fields no rule reads: two frames that differ only in the DLC, in bytes 6 and 7 and in bits 6:4 of byte 4
(and its checksum), neither an escape frame and both or neither checksum-valid, make the same step (the
spec's decisions D14, D16, D17). -/
def Obligations.IgnoredFieldsMakeNoDifference : Prop :=
  ∀ (s : State) (n : Inputs) (g : RxFrame) (r : List Inputs),
    CommandFrame s.params n.rx → CommandFrame s.params g →
    g.data.b0 = n.rx.data.b0 → g.data.b1 = n.rx.data.b1 → g.data.b2 = n.rx.data.b2 → g.data.b3 = n.rx.data.b3 →
    g.data.b4.getLsbD 7 = n.rx.data.b4.getLsbD 7 → g.data.b4.extractLsb' 0 4 = n.rx.data.b4.extractLsb' 0 4 →
    (ChecksumValid g.data ↔ ChecksumValid n.rx.data) →
    step { s with inputs := { n with rx := g } :: r } = step { s with inputs := n :: r }

/-- No step changes a parameter (the spec's decision D23 on what the core does not have). -/
def Obligations.ParametersNeverChange : Prop := ∀ s t : State, step s = .next t → t.params = s.params

/-- The last-seen index shows on no output of a step without a frame (a property the spec marks as derived). -/
def Obligations.LastSeenIndexIsHidden : Prop :=
  ∀ (s : State) (q : Nibble), (nextInputs s).rxValid = false →
    ∃ t t', step s = .next t ∧ step { s with lastSeq := q } = .next t' ∧ t'.outputs = t.outputs

/-- After reset the first checksum-valid command with an index other than 1 is a gap, and the peer's next one,
with the following index, is accepted (a property the spec marks as derived; the index at reset is its
decision D9). -/
def Obligations.FirstFrameAfterResetResynchronises : Prop :=
  ∀ (s : State) (f g : RxFrame), exec .reset s = .next s → CommandFrame s.params f → ChecksumValid f.data →
    f.data.b4.extractLsb' 0 4 ≠ 1 →
    (g.data.b4.extractLsb' 0 4).toNat = ((f.data.b4.extractLsb' 0 4).toNat + 1) % 16 →
    CommandFrame s.params g → ChecksumValid g.data →
    exec (classify s.params s.lastSeq f) s =
      .next { s with lastSeq := f.data.b4.extractLsb' 0 4, pulses := { s.pulses with rxAck := true } } ∧
    AcceptedFrame s.params (f.data.b4.extractLsb' 0 4) g

/-! ## Invariants and runs -/

/-- The state after reset is legal, whatever the implementation's parameters (the counter starts at zero: the
spec's decision D8, log 2). -/
def Obligations.ResetStateIsLegal : Prop := LegalState State.reset

/-- Every step from a legal state leads to a legal state: the timeout counter never passes the ceiling (saturation is
the spec's decision D7, log 13; a reset step sets the counter to zero by its decision D8, log 2) and the
parameters stay legal. -/
def Obligations.StepKeepsLegalStates : Prop :=
  ∀ s t : State, LegalState s → step s = .next t → LegalState t

/-- After reset the analog outputs cover the latched readings: both are zero, which is the spec's decision D12
(log 2). -/
def Obligations.ResetOutputCoversReading : Prop := OutputCoversReading State.reset

/-- Every step keeps each analog output at or above the reading latched with it: the driver's own input is
never suppressed, in any fault state. In a reset step this holds because readings and outputs are both zeroed,
which is the spec's decision D12 (log 2). -/
def Obligations.StepKeepsOutputCoveringReading : Prop :=
  ∀ s t : State, OutputCoversReading s → step s = .next t → OutputCoversReading t

/-- Overrides held while the fault state is not `no_fault` never reach an output: two states that differ only
in such overrides run on with the same outputs for any number of steps and any inputs, through recovery and
after. -/
def Obligations.StaleOverridesNeverReachAnOutput : Prop :=
  ∀ (k : Nat) (s t s' : State), SameButStaleOverrides s t → Sys2Proof.core.run k s = .next s' →
    ∃ t', Sys2Proof.core.run k t = .next t' ∧ SameButStaleOverrides s' t' ∧ t'.outputs = s'.outputs

/-- Counting ticks over a run without frames, resets and bus errors (a property the spec marks as derived, on its
decision D7, log 13): the counter is the number of ticks, saturated; once it reaches the ceiling the fault
state is `timeout`; before that no tick raises `timeout`, and ticks which find the transmitter empty leave the
fault state alone. -/
def Obligations.TimeoutIsRaisedAtTheCeiling : Prop :=
  ∀ (s : State) (ns : List Inputs), s.toCnt ≤ s.params.timeoutCeiling →
    (∀ n ∈ ns, n.rst = false ∧ n.rxValid = false ∧ n.busErr = false) →
    ∃ t, runOn ns s = .next t ∧ t.toCnt = min (s.toCnt + tickCount ns) s.params.timeoutCeiling ∧
      (0 < tickCount ns → s.params.timeoutCeiling ≤ s.toCnt + tickCount ns → t.fault = .timeout) ∧
      (s.toCnt + tickCount ns < s.params.timeoutCeiling → t.fault = .timeout → s.fault = .timeout) ∧
      (s.toCnt + tickCount ns < s.params.timeoutCeiling → (∀ n ∈ ns, n.tick = true → n.txEmpty = true) →
        t.fault = s.fault)
end

