-- ==== Sys2Proof/Laws/Crc.lean ====
section
/-! SUPPORT. The checksum function, one byte at a time, and the linearity of its shift register. -/

namespace Sys2Proof.Machine

@[simp] theorem crc8_nil : crc8 [] = 0xFF#8 := rfl

@[simp] theorem crc8_cons (x : Byte) (bs : List Byte) : crc8 (x :: bs) = crcByte (crc8 bs ^^^ x) := rfl

theorem crcShift_zero : crcShift 0 = 0 := by decide

theorem crcByte_zero : crcByte 0 = 0 := by decide

/-- A shift step is linear over XOR: shifting and XOR with the polynomial both are. -/
theorem crcShift_xor (a b : Byte) : crcShift (a ^^^ b) = crcShift a ^^^ crcShift b := by
  unfold crcShift
  rw [BitVec.getLsbD_xor]
  cases a.getLsbD 7 <;> cases b.getLsbD 7 <;> simp [BitVec.shiftLeft_xor_distrib, BitVec.xor_assoc]
  · exact BitVec.xor_comm _ _

theorem crcByte_xor (a b : Byte) : crcByte (a ^^^ b) = crcByte a ^^^ crcByte b := by
  simp only [crcByte, crcShift_xor]

end Sys2Proof.Machine
end

