-- ==== Sys2Proof/Laws/State.lean ====
section
/-! SUPPORT. One lemma per field per update of the shared operations: what each leaves in every field. -/

namespace Sys2Proof.Machine

/-! `raiseFault` -/

@[simp] theorem raiseFault_fault (c : FaultState) (s : State) : (raiseFault c s).fault = c := rfl
@[simp] theorem raiseFault_ovr0 (c : FaultState) (s : State) : (raiseFault c s).ovr0 = s.ovr0 := rfl
@[simp] theorem raiseFault_ovr1 (c : FaultState) (s : State) : (raiseFault c s).ovr1 = s.ovr1 := rfl
@[simp] theorem raiseFault_lastSeq (c : FaultState) (s : State) : (raiseFault c s).lastSeq = s.lastSeq := rfl
@[simp] theorem raiseFault_txIdx (c : FaultState) (s : State) : (raiseFault c s).txIdx = s.txIdx := rfl
@[simp] theorem raiseFault_toCnt (c : FaultState) (s : State) : (raiseFault c s).toCnt = s.toCnt := rfl
@[simp] theorem raiseFault_pos0 (c : FaultState) (s : State) : (raiseFault c s).pos0 = s.pos0 := rfl
@[simp] theorem raiseFault_pos1 (c : FaultState) (s : State) : (raiseFault c s).pos1 = s.pos1 := rfl
@[simp] theorem raiseFault_dac0 (c : FaultState) (s : State) : (raiseFault c s).dac0 = s.dac0 := rfl
@[simp] theorem raiseFault_dac1 (c : FaultState) (s : State) : (raiseFault c s).dac1 = s.dac1 := rfl
@[simp] theorem raiseFault_led (c : FaultState) (s : State) : (raiseFault c s).led = s.led := rfl
@[simp] theorem raiseFault_pulses (c : FaultState) (s : State) : (raiseFault c s).pulses = s.pulses := rfl
@[simp] theorem raiseFault_inputs (c : FaultState) (s : State) : (raiseFault c s).inputs = s.inputs := rfl
@[simp] theorem raiseFault_params (c : FaultState) (s : State) : (raiseFault c s).params = s.params := rfl
@[simp] theorem raiseFault_crcResult (c : FaultState) (s : State) : (raiseFault c s).crcResult = s.crcResult := rfl

/-! `clearFault` -/

@[simp] theorem clearFault_fault (s : State) : (clearFault s).fault = .noFault := rfl
@[simp] theorem clearFault_ovr0 (s : State) : (clearFault s).ovr0 = s.ovr0 := rfl
@[simp] theorem clearFault_ovr1 (s : State) : (clearFault s).ovr1 = s.ovr1 := rfl
@[simp] theorem clearFault_lastSeq (s : State) : (clearFault s).lastSeq = s.lastSeq := rfl
@[simp] theorem clearFault_txIdx (s : State) : (clearFault s).txIdx = s.txIdx := rfl
@[simp] theorem clearFault_toCnt (s : State) : (clearFault s).toCnt = s.toCnt := rfl
@[simp] theorem clearFault_pos0 (s : State) : (clearFault s).pos0 = s.pos0 := rfl
@[simp] theorem clearFault_pos1 (s : State) : (clearFault s).pos1 = s.pos1 := rfl
@[simp] theorem clearFault_dac0 (s : State) : (clearFault s).dac0 = s.dac0 := rfl
@[simp] theorem clearFault_dac1 (s : State) : (clearFault s).dac1 = s.dac1 := rfl
@[simp] theorem clearFault_led (s : State) : (clearFault s).led = s.led := rfl
@[simp] theorem clearFault_pulses (s : State) : (clearFault s).pulses = s.pulses := rfl
@[simp] theorem clearFault_inputs (s : State) : (clearFault s).inputs = s.inputs := rfl
@[simp] theorem clearFault_params (s : State) : (clearFault s).params = s.params := rfl
@[simp] theorem clearFault_crcResult (s : State) : (clearFault s).crcResult = s.crcResult := rfl

/-! `writeOverrides` -/

@[simp] theorem writeOverrides_fault (v0 v1 : Word16) (s : State) : (writeOverrides v0 v1 s).fault = s.fault := rfl
@[simp] theorem writeOverrides_ovr0 (v0 v1 : Word16) (s : State) : (writeOverrides v0 v1 s).ovr0 = v0 := rfl
@[simp] theorem writeOverrides_ovr1 (v0 v1 : Word16) (s : State) : (writeOverrides v0 v1 s).ovr1 = v1 := rfl
@[simp] theorem writeOverrides_lastSeq (v0 v1 : Word16) (s : State) : (writeOverrides v0 v1 s).lastSeq = s.lastSeq := rfl
@[simp] theorem writeOverrides_txIdx (v0 v1 : Word16) (s : State) : (writeOverrides v0 v1 s).txIdx = s.txIdx := rfl
@[simp] theorem writeOverrides_toCnt (v0 v1 : Word16) (s : State) : (writeOverrides v0 v1 s).toCnt = s.toCnt := rfl
@[simp] theorem writeOverrides_pos0 (v0 v1 : Word16) (s : State) : (writeOverrides v0 v1 s).pos0 = s.pos0 := rfl
@[simp] theorem writeOverrides_pos1 (v0 v1 : Word16) (s : State) : (writeOverrides v0 v1 s).pos1 = s.pos1 := rfl
@[simp] theorem writeOverrides_dac0 (v0 v1 : Word16) (s : State) : (writeOverrides v0 v1 s).dac0 = s.dac0 := rfl
@[simp] theorem writeOverrides_dac1 (v0 v1 : Word16) (s : State) : (writeOverrides v0 v1 s).dac1 = s.dac1 := rfl
@[simp] theorem writeOverrides_led (v0 v1 : Word16) (s : State) : (writeOverrides v0 v1 s).led = s.led := rfl
@[simp] theorem writeOverrides_pulses (v0 v1 : Word16) (s : State) : (writeOverrides v0 v1 s).pulses = s.pulses := rfl
@[simp] theorem writeOverrides_inputs (v0 v1 : Word16) (s : State) : (writeOverrides v0 v1 s).inputs = s.inputs := rfl
@[simp] theorem writeOverrides_params (v0 v1 : Word16) (s : State) : (writeOverrides v0 v1 s).params = s.params := rfl
@[simp] theorem writeOverrides_crcResult (v0 v1 : Word16) (s : State) : (writeOverrides v0 v1 s).crcResult = s.crcResult := rfl

/-! `recordSeq` -/

@[simp] theorem recordSeq_fault (q : Nibble) (s : State) : (recordSeq q s).fault = s.fault := rfl
@[simp] theorem recordSeq_ovr0 (q : Nibble) (s : State) : (recordSeq q s).ovr0 = s.ovr0 := rfl
@[simp] theorem recordSeq_ovr1 (q : Nibble) (s : State) : (recordSeq q s).ovr1 = s.ovr1 := rfl
@[simp] theorem recordSeq_lastSeq (q : Nibble) (s : State) : (recordSeq q s).lastSeq = q := rfl
@[simp] theorem recordSeq_txIdx (q : Nibble) (s : State) : (recordSeq q s).txIdx = s.txIdx := rfl
@[simp] theorem recordSeq_toCnt (q : Nibble) (s : State) : (recordSeq q s).toCnt = s.toCnt := rfl
@[simp] theorem recordSeq_pos0 (q : Nibble) (s : State) : (recordSeq q s).pos0 = s.pos0 := rfl
@[simp] theorem recordSeq_pos1 (q : Nibble) (s : State) : (recordSeq q s).pos1 = s.pos1 := rfl
@[simp] theorem recordSeq_dac0 (q : Nibble) (s : State) : (recordSeq q s).dac0 = s.dac0 := rfl
@[simp] theorem recordSeq_dac1 (q : Nibble) (s : State) : (recordSeq q s).dac1 = s.dac1 := rfl
@[simp] theorem recordSeq_led (q : Nibble) (s : State) : (recordSeq q s).led = s.led := rfl
@[simp] theorem recordSeq_pulses (q : Nibble) (s : State) : (recordSeq q s).pulses = s.pulses := rfl
@[simp] theorem recordSeq_inputs (q : Nibble) (s : State) : (recordSeq q s).inputs = s.inputs := rfl
@[simp] theorem recordSeq_params (q : Nibble) (s : State) : (recordSeq q s).params = s.params := rfl
@[simp] theorem recordSeq_crcResult (q : Nibble) (s : State) : (recordSeq q s).crcResult = s.crcResult := rfl

/-! `restartTimeout` -/

@[simp] theorem restartTimeout_fault (s : State) : (restartTimeout s).fault = s.fault := rfl
@[simp] theorem restartTimeout_ovr0 (s : State) : (restartTimeout s).ovr0 = s.ovr0 := rfl
@[simp] theorem restartTimeout_ovr1 (s : State) : (restartTimeout s).ovr1 = s.ovr1 := rfl
@[simp] theorem restartTimeout_lastSeq (s : State) : (restartTimeout s).lastSeq = s.lastSeq := rfl
@[simp] theorem restartTimeout_txIdx (s : State) : (restartTimeout s).txIdx = s.txIdx := rfl
@[simp] theorem restartTimeout_toCnt (s : State) : (restartTimeout s).toCnt = 0 := rfl
@[simp] theorem restartTimeout_pos0 (s : State) : (restartTimeout s).pos0 = s.pos0 := rfl
@[simp] theorem restartTimeout_pos1 (s : State) : (restartTimeout s).pos1 = s.pos1 := rfl
@[simp] theorem restartTimeout_dac0 (s : State) : (restartTimeout s).dac0 = s.dac0 := rfl
@[simp] theorem restartTimeout_dac1 (s : State) : (restartTimeout s).dac1 = s.dac1 := rfl
@[simp] theorem restartTimeout_led (s : State) : (restartTimeout s).led = s.led := rfl
@[simp] theorem restartTimeout_pulses (s : State) : (restartTimeout s).pulses = s.pulses := rfl
@[simp] theorem restartTimeout_inputs (s : State) : (restartTimeout s).inputs = s.inputs := rfl
@[simp] theorem restartTimeout_params (s : State) : (restartTimeout s).params = s.params := rfl
@[simp] theorem restartTimeout_crcResult (s : State) : (restartTimeout s).crcResult = s.crcResult := rfl

/-! `ackFrame` -/

@[simp] theorem ackFrame_fault (s : State) : (ackFrame s).fault = s.fault := rfl
@[simp] theorem ackFrame_ovr0 (s : State) : (ackFrame s).ovr0 = s.ovr0 := rfl
@[simp] theorem ackFrame_ovr1 (s : State) : (ackFrame s).ovr1 = s.ovr1 := rfl
@[simp] theorem ackFrame_lastSeq (s : State) : (ackFrame s).lastSeq = s.lastSeq := rfl
@[simp] theorem ackFrame_txIdx (s : State) : (ackFrame s).txIdx = s.txIdx := rfl
@[simp] theorem ackFrame_toCnt (s : State) : (ackFrame s).toCnt = s.toCnt := rfl
@[simp] theorem ackFrame_pos0 (s : State) : (ackFrame s).pos0 = s.pos0 := rfl
@[simp] theorem ackFrame_pos1 (s : State) : (ackFrame s).pos1 = s.pos1 := rfl
@[simp] theorem ackFrame_dac0 (s : State) : (ackFrame s).dac0 = s.dac0 := rfl
@[simp] theorem ackFrame_dac1 (s : State) : (ackFrame s).dac1 = s.dac1 := rfl
@[simp] theorem ackFrame_led (s : State) : (ackFrame s).led = s.led := rfl
@[simp] theorem ackFrame_pulses (s : State) : (ackFrame s).pulses = { s.pulses with rxAck := true } := rfl
@[simp] theorem ackFrame_inputs (s : State) : (ackFrame s).inputs = s.inputs := rfl
@[simp] theorem ackFrame_params (s : State) : (ackFrame s).params = s.params := rfl
@[simp] theorem ackFrame_crcResult (s : State) : (ackFrame s).crcResult = s.crcResult := rfl

/-! `requestEscape` -/

@[simp] theorem requestEscape_fault (k : Nat) (s : State) : (requestEscape k s).fault = s.fault := rfl
@[simp] theorem requestEscape_ovr0 (k : Nat) (s : State) : (requestEscape k s).ovr0 = s.ovr0 := rfl
@[simp] theorem requestEscape_ovr1 (k : Nat) (s : State) : (requestEscape k s).ovr1 = s.ovr1 := rfl
@[simp] theorem requestEscape_lastSeq (k : Nat) (s : State) : (requestEscape k s).lastSeq = s.lastSeq := rfl
@[simp] theorem requestEscape_txIdx (k : Nat) (s : State) : (requestEscape k s).txIdx = s.txIdx := rfl
@[simp] theorem requestEscape_toCnt (k : Nat) (s : State) : (requestEscape k s).toCnt = s.toCnt := rfl
@[simp] theorem requestEscape_pos0 (k : Nat) (s : State) : (requestEscape k s).pos0 = s.pos0 := rfl
@[simp] theorem requestEscape_pos1 (k : Nat) (s : State) : (requestEscape k s).pos1 = s.pos1 := rfl
@[simp] theorem requestEscape_dac0 (k : Nat) (s : State) : (requestEscape k s).dac0 = s.dac0 := rfl
@[simp] theorem requestEscape_dac1 (k : Nat) (s : State) : (requestEscape k s).dac1 = s.dac1 := rfl
@[simp] theorem requestEscape_led (k : Nat) (s : State) : (requestEscape k s).led = s.led := rfl
@[simp] theorem requestEscape_pulses (k : Nat) (s : State) : (requestEscape k s).pulses = { s.pulses with escapeReq := true, escapeSel := k } := rfl
@[simp] theorem requestEscape_inputs (k : Nat) (s : State) : (requestEscape k s).inputs = s.inputs := rfl
@[simp] theorem requestEscape_params (k : Nat) (s : State) : (requestEscape k s).params = s.params := rfl
@[simp] theorem requestEscape_crcResult (k : Nat) (s : State) : (requestEscape k s).crcResult = s.crcResult := rfl

/-! `latchPositions` -/

@[simp] theorem latchPositions_fault (a0 a1 : Word16) (s : State) : (latchPositions a0 a1 s).fault = s.fault := rfl
@[simp] theorem latchPositions_ovr0 (a0 a1 : Word16) (s : State) : (latchPositions a0 a1 s).ovr0 = s.ovr0 := rfl
@[simp] theorem latchPositions_ovr1 (a0 a1 : Word16) (s : State) : (latchPositions a0 a1 s).ovr1 = s.ovr1 := rfl
@[simp] theorem latchPositions_lastSeq (a0 a1 : Word16) (s : State) : (latchPositions a0 a1 s).lastSeq = s.lastSeq := rfl
@[simp] theorem latchPositions_txIdx (a0 a1 : Word16) (s : State) : (latchPositions a0 a1 s).txIdx = s.txIdx := rfl
@[simp] theorem latchPositions_toCnt (a0 a1 : Word16) (s : State) : (latchPositions a0 a1 s).toCnt = s.toCnt := rfl
@[simp] theorem latchPositions_pos0 (a0 a1 : Word16) (s : State) : (latchPositions a0 a1 s).pos0 = a0 := rfl
@[simp] theorem latchPositions_pos1 (a0 a1 : Word16) (s : State) : (latchPositions a0 a1 s).pos1 = a1 := rfl
@[simp] theorem latchPositions_dac0 (a0 a1 : Word16) (s : State) : (latchPositions a0 a1 s).dac0 = s.dac0 := rfl
@[simp] theorem latchPositions_dac1 (a0 a1 : Word16) (s : State) : (latchPositions a0 a1 s).dac1 = s.dac1 := rfl
@[simp] theorem latchPositions_led (a0 a1 : Word16) (s : State) : (latchPositions a0 a1 s).led = s.led := rfl
@[simp] theorem latchPositions_pulses (a0 a1 : Word16) (s : State) : (latchPositions a0 a1 s).pulses = s.pulses := rfl
@[simp] theorem latchPositions_inputs (a0 a1 : Word16) (s : State) : (latchPositions a0 a1 s).inputs = s.inputs := rfl
@[simp] theorem latchPositions_params (a0 a1 : Word16) (s : State) : (latchPositions a0 a1 s).params = s.params := rfl
@[simp] theorem latchPositions_crcResult (a0 a1 : Word16) (s : State) : (latchPositions a0 a1 s).crcResult = s.crcResult := rfl

/-! `driveDacs` -/

@[simp] theorem driveDacs_fault (d0 d1 : Word16) (s : State) : (driveDacs d0 d1 s).fault = s.fault := rfl
@[simp] theorem driveDacs_ovr0 (d0 d1 : Word16) (s : State) : (driveDacs d0 d1 s).ovr0 = s.ovr0 := rfl
@[simp] theorem driveDacs_ovr1 (d0 d1 : Word16) (s : State) : (driveDacs d0 d1 s).ovr1 = s.ovr1 := rfl
@[simp] theorem driveDacs_lastSeq (d0 d1 : Word16) (s : State) : (driveDacs d0 d1 s).lastSeq = s.lastSeq := rfl
@[simp] theorem driveDacs_txIdx (d0 d1 : Word16) (s : State) : (driveDacs d0 d1 s).txIdx = s.txIdx := rfl
@[simp] theorem driveDacs_toCnt (d0 d1 : Word16) (s : State) : (driveDacs d0 d1 s).toCnt = s.toCnt := rfl
@[simp] theorem driveDacs_pos0 (d0 d1 : Word16) (s : State) : (driveDacs d0 d1 s).pos0 = s.pos0 := rfl
@[simp] theorem driveDacs_pos1 (d0 d1 : Word16) (s : State) : (driveDacs d0 d1 s).pos1 = s.pos1 := rfl
@[simp] theorem driveDacs_dac0 (d0 d1 : Word16) (s : State) : (driveDacs d0 d1 s).dac0 = d0 := rfl
@[simp] theorem driveDacs_dac1 (d0 d1 : Word16) (s : State) : (driveDacs d0 d1 s).dac1 = d1 := rfl
@[simp] theorem driveDacs_led (d0 d1 : Word16) (s : State) : (driveDacs d0 d1 s).led = s.led := rfl
@[simp] theorem driveDacs_pulses (d0 d1 : Word16) (s : State) : (driveDacs d0 d1 s).pulses = { s.pulses with dacWe := true } := rfl
@[simp] theorem driveDacs_inputs (d0 d1 : Word16) (s : State) : (driveDacs d0 d1 s).inputs = s.inputs := rfl
@[simp] theorem driveDacs_params (d0 d1 : Word16) (s : State) : (driveDacs d0 d1 s).params = s.params := rfl
@[simp] theorem driveDacs_crcResult (d0 d1 : Word16) (s : State) : (driveDacs d0 d1 s).crcResult = s.crcResult := rfl

/-! `feedWatchdog` -/

@[simp] theorem feedWatchdog_fault (s : State) : (feedWatchdog s).fault = s.fault := rfl
@[simp] theorem feedWatchdog_ovr0 (s : State) : (feedWatchdog s).ovr0 = s.ovr0 := rfl
@[simp] theorem feedWatchdog_ovr1 (s : State) : (feedWatchdog s).ovr1 = s.ovr1 := rfl
@[simp] theorem feedWatchdog_lastSeq (s : State) : (feedWatchdog s).lastSeq = s.lastSeq := rfl
@[simp] theorem feedWatchdog_txIdx (s : State) : (feedWatchdog s).txIdx = s.txIdx := rfl
@[simp] theorem feedWatchdog_toCnt (s : State) : (feedWatchdog s).toCnt = s.toCnt := rfl
@[simp] theorem feedWatchdog_pos0 (s : State) : (feedWatchdog s).pos0 = s.pos0 := rfl
@[simp] theorem feedWatchdog_pos1 (s : State) : (feedWatchdog s).pos1 = s.pos1 := rfl
@[simp] theorem feedWatchdog_dac0 (s : State) : (feedWatchdog s).dac0 = s.dac0 := rfl
@[simp] theorem feedWatchdog_dac1 (s : State) : (feedWatchdog s).dac1 = s.dac1 := rfl
@[simp] theorem feedWatchdog_led (s : State) : (feedWatchdog s).led = s.led := rfl
@[simp] theorem feedWatchdog_pulses (s : State) : (feedWatchdog s).pulses = { s.pulses with wdtFeed := true } := rfl
@[simp] theorem feedWatchdog_inputs (s : State) : (feedWatchdog s).inputs = s.inputs := rfl
@[simp] theorem feedWatchdog_params (s : State) : (feedWatchdog s).params = s.params := rfl
@[simp] theorem feedWatchdog_crcResult (s : State) : (feedWatchdog s).crcResult = s.crcResult := rfl

/-! `sendFrame` -/

@[simp] theorem sendFrame_fault (f : TxData) (s : State) : (sendFrame f s).fault = s.fault := rfl
@[simp] theorem sendFrame_ovr0 (f : TxData) (s : State) : (sendFrame f s).ovr0 = s.ovr0 := rfl
@[simp] theorem sendFrame_ovr1 (f : TxData) (s : State) : (sendFrame f s).ovr1 = s.ovr1 := rfl
@[simp] theorem sendFrame_lastSeq (f : TxData) (s : State) : (sendFrame f s).lastSeq = s.lastSeq := rfl
@[simp] theorem sendFrame_txIdx (f : TxData) (s : State) : (sendFrame f s).txIdx = s.txIdx := rfl
@[simp] theorem sendFrame_toCnt (f : TxData) (s : State) : (sendFrame f s).toCnt = s.toCnt := rfl
@[simp] theorem sendFrame_pos0 (f : TxData) (s : State) : (sendFrame f s).pos0 = s.pos0 := rfl
@[simp] theorem sendFrame_pos1 (f : TxData) (s : State) : (sendFrame f s).pos1 = s.pos1 := rfl
@[simp] theorem sendFrame_dac0 (f : TxData) (s : State) : (sendFrame f s).dac0 = s.dac0 := rfl
@[simp] theorem sendFrame_dac1 (f : TxData) (s : State) : (sendFrame f s).dac1 = s.dac1 := rfl
@[simp] theorem sendFrame_led (f : TxData) (s : State) : (sendFrame f s).led = s.led := rfl
@[simp] theorem sendFrame_pulses (f : TxData) (s : State) : (sendFrame f s).pulses = { s.pulses with txValid := true, txData := f } := rfl
@[simp] theorem sendFrame_inputs (f : TxData) (s : State) : (sendFrame f s).inputs = s.inputs := rfl
@[simp] theorem sendFrame_params (f : TxData) (s : State) : (sendFrame f s).params = s.params := rfl
@[simp] theorem sendFrame_crcResult (f : TxData) (s : State) : (sendFrame f s).crcResult = s.crcResult := rfl

/-! `advanceTxIdx` -/

@[simp] theorem advanceTxIdx_fault (s : State) : (advanceTxIdx s).fault = s.fault := rfl
@[simp] theorem advanceTxIdx_ovr0 (s : State) : (advanceTxIdx s).ovr0 = s.ovr0 := rfl
@[simp] theorem advanceTxIdx_ovr1 (s : State) : (advanceTxIdx s).ovr1 = s.ovr1 := rfl
@[simp] theorem advanceTxIdx_lastSeq (s : State) : (advanceTxIdx s).lastSeq = s.lastSeq := rfl
@[simp] theorem advanceTxIdx_txIdx (s : State) : (advanceTxIdx s).txIdx = s.txIdx + 1 := rfl
@[simp] theorem advanceTxIdx_toCnt (s : State) : (advanceTxIdx s).toCnt = s.toCnt := rfl
@[simp] theorem advanceTxIdx_pos0 (s : State) : (advanceTxIdx s).pos0 = s.pos0 := rfl
@[simp] theorem advanceTxIdx_pos1 (s : State) : (advanceTxIdx s).pos1 = s.pos1 := rfl
@[simp] theorem advanceTxIdx_dac0 (s : State) : (advanceTxIdx s).dac0 = s.dac0 := rfl
@[simp] theorem advanceTxIdx_dac1 (s : State) : (advanceTxIdx s).dac1 = s.dac1 := rfl
@[simp] theorem advanceTxIdx_led (s : State) : (advanceTxIdx s).led = s.led := rfl
@[simp] theorem advanceTxIdx_pulses (s : State) : (advanceTxIdx s).pulses = s.pulses := rfl
@[simp] theorem advanceTxIdx_inputs (s : State) : (advanceTxIdx s).inputs = s.inputs := rfl
@[simp] theorem advanceTxIdx_params (s : State) : (advanceTxIdx s).params = s.params := rfl
@[simp] theorem advanceTxIdx_crcResult (s : State) : (advanceTxIdx s).crcResult = s.crcResult := rfl

/-! `toggleLed` -/

@[simp] theorem toggleLed_fault (s : State) : (toggleLed s).fault = s.fault := rfl
@[simp] theorem toggleLed_ovr0 (s : State) : (toggleLed s).ovr0 = s.ovr0 := rfl
@[simp] theorem toggleLed_ovr1 (s : State) : (toggleLed s).ovr1 = s.ovr1 := rfl
@[simp] theorem toggleLed_lastSeq (s : State) : (toggleLed s).lastSeq = s.lastSeq := rfl
@[simp] theorem toggleLed_txIdx (s : State) : (toggleLed s).txIdx = s.txIdx := rfl
@[simp] theorem toggleLed_toCnt (s : State) : (toggleLed s).toCnt = s.toCnt := rfl
@[simp] theorem toggleLed_pos0 (s : State) : (toggleLed s).pos0 = s.pos0 := rfl
@[simp] theorem toggleLed_pos1 (s : State) : (toggleLed s).pos1 = s.pos1 := rfl
@[simp] theorem toggleLed_dac0 (s : State) : (toggleLed s).dac0 = s.dac0 := rfl
@[simp] theorem toggleLed_dac1 (s : State) : (toggleLed s).dac1 = s.dac1 := rfl
@[simp] theorem toggleLed_led (s : State) : (toggleLed s).led = !s.led := rfl
@[simp] theorem toggleLed_pulses (s : State) : (toggleLed s).pulses = s.pulses := rfl
@[simp] theorem toggleLed_inputs (s : State) : (toggleLed s).inputs = s.inputs := rfl
@[simp] theorem toggleLed_params (s : State) : (toggleLed s).params = s.params := rfl
@[simp] theorem toggleLed_crcResult (s : State) : (toggleLed s).crcResult = s.crcResult := rfl

/-! `advanceTimeout` -/

@[simp] theorem advanceTimeout_fault (s : State) : (advanceTimeout s).fault = s.fault := rfl
@[simp] theorem advanceTimeout_ovr0 (s : State) : (advanceTimeout s).ovr0 = s.ovr0 := rfl
@[simp] theorem advanceTimeout_ovr1 (s : State) : (advanceTimeout s).ovr1 = s.ovr1 := rfl
@[simp] theorem advanceTimeout_lastSeq (s : State) : (advanceTimeout s).lastSeq = s.lastSeq := rfl
@[simp] theorem advanceTimeout_txIdx (s : State) : (advanceTimeout s).txIdx = s.txIdx := rfl
@[simp] theorem advanceTimeout_toCnt (s : State) : (advanceTimeout s).toCnt = min (s.toCnt + 1) s.params.timeoutCeiling := rfl
@[simp] theorem advanceTimeout_pos0 (s : State) : (advanceTimeout s).pos0 = s.pos0 := rfl
@[simp] theorem advanceTimeout_pos1 (s : State) : (advanceTimeout s).pos1 = s.pos1 := rfl
@[simp] theorem advanceTimeout_dac0 (s : State) : (advanceTimeout s).dac0 = s.dac0 := rfl
@[simp] theorem advanceTimeout_dac1 (s : State) : (advanceTimeout s).dac1 = s.dac1 := rfl
@[simp] theorem advanceTimeout_led (s : State) : (advanceTimeout s).led = s.led := rfl
@[simp] theorem advanceTimeout_pulses (s : State) : (advanceTimeout s).pulses = s.pulses := rfl
@[simp] theorem advanceTimeout_inputs (s : State) : (advanceTimeout s).inputs = s.inputs := rfl
@[simp] theorem advanceTimeout_params (s : State) : (advanceTimeout s).params = s.params := rfl
@[simp] theorem advanceTimeout_crcResult (s : State) : (advanceTimeout s).crcResult = s.crcResult := rfl

/-! `resetRegisters` -/

@[simp] theorem resetRegisters_fault (s : State) : (resetRegisters s).fault = .startup := rfl
@[simp] theorem resetRegisters_ovr0 (s : State) : (resetRegisters s).ovr0 = 0 := rfl
@[simp] theorem resetRegisters_ovr1 (s : State) : (resetRegisters s).ovr1 = 0 := rfl
@[simp] theorem resetRegisters_lastSeq (s : State) : (resetRegisters s).lastSeq = 0 := rfl
@[simp] theorem resetRegisters_txIdx (s : State) : (resetRegisters s).txIdx = 0 := rfl
@[simp] theorem resetRegisters_toCnt (s : State) : (resetRegisters s).toCnt = 0 := rfl
@[simp] theorem resetRegisters_pos0 (s : State) : (resetRegisters s).pos0 = 0 := rfl
@[simp] theorem resetRegisters_pos1 (s : State) : (resetRegisters s).pos1 = 0 := rfl
@[simp] theorem resetRegisters_dac0 (s : State) : (resetRegisters s).dac0 = 0 := rfl
@[simp] theorem resetRegisters_dac1 (s : State) : (resetRegisters s).dac1 = 0 := rfl
@[simp] theorem resetRegisters_led (s : State) : (resetRegisters s).led = false := rfl
@[simp] theorem resetRegisters_pulses (s : State) : (resetRegisters s).pulses = s.pulses := rfl
@[simp] theorem resetRegisters_inputs (s : State) : (resetRegisters s).inputs = s.inputs := rfl
@[simp] theorem resetRegisters_params (s : State) : (resetRegisters s).params = s.params := rfl
@[simp] theorem resetRegisters_crcResult (s : State) : (resetRegisters s).crcResult = s.crcResult := rfl

/-! `beginStep` -/

@[simp] theorem beginStep_fault (s : State) : (beginStep s).fault = s.fault := rfl
@[simp] theorem beginStep_ovr0 (s : State) : (beginStep s).ovr0 = s.ovr0 := rfl
@[simp] theorem beginStep_ovr1 (s : State) : (beginStep s).ovr1 = s.ovr1 := rfl
@[simp] theorem beginStep_lastSeq (s : State) : (beginStep s).lastSeq = s.lastSeq := rfl
@[simp] theorem beginStep_txIdx (s : State) : (beginStep s).txIdx = s.txIdx := rfl
@[simp] theorem beginStep_toCnt (s : State) : (beginStep s).toCnt = s.toCnt := rfl
@[simp] theorem beginStep_pos0 (s : State) : (beginStep s).pos0 = s.pos0 := rfl
@[simp] theorem beginStep_pos1 (s : State) : (beginStep s).pos1 = s.pos1 := rfl
@[simp] theorem beginStep_dac0 (s : State) : (beginStep s).dac0 = s.dac0 := rfl
@[simp] theorem beginStep_dac1 (s : State) : (beginStep s).dac1 = s.dac1 := rfl
@[simp] theorem beginStep_led (s : State) : (beginStep s).led = s.led := rfl
@[simp] theorem beginStep_pulses (s : State) : (beginStep s).pulses = Pulses.idle := rfl
@[simp] theorem beginStep_inputs (s : State) : (beginStep s).inputs = s.inputs.tail := rfl
@[simp] theorem beginStep_params (s : State) : (beginStep s).params = s.params := rfl
@[simp] theorem beginStep_crcResult (s : State) : (beginStep s).crcResult = s.crcResult := rfl

end Sys2Proof.Machine
end

