-- ==== Sys2Proof/Laws/Ops.lean ====
section
/-! SUPPORT. What each shared operation can do, said once, for proofs to cite. -/

namespace Sys2Proof.Machine

/-- Writing six bytes leaves nothing of what TX held. -/
@[simp] theorem writeTx_eq (f t : TxData) : writeTx f t = f := rfl

theorem umax_eq (a b : Word16) : umax a b = if a ≤ b then b else a := rfl

/-- The unsigned maximum is never below its first argument. -/
theorem le_umax (a b : Word16) : a ≤ umax a b := by
  unfold umax
  split
  · assumption
  · exact BitVec.le_refl a

/-- The arbiter never goes below the reading, in any fault state (rule R170). -/
theorem le_arbitrate (c : FaultState) (a o : Word16) : a ≤ arbitrate c a o := by
  unfold arbitrate
  split
  · exact le_umax a o
  · exact BitVec.le_refl a

theorem arbitrate_noFault (a o : Word16) : arbitrate .noFault a o = umax a o := rfl

theorem arbitrate_of_ne {c : FaultState} (h : c ≠ .noFault) (a o : Word16) : arbitrate c a o = a := if_neg h

/-- The timeout check writes the fault register or nothing. -/
theorem checkTimeout_cases (s : State) :
    (s.toCnt = s.params.timeoutCeiling ∧ checkTimeout s = raiseFault .timeout s) ∨
      (s.toCnt ≠ s.params.timeoutCeiling ∧ checkTimeout s = s) := by
  by_cases h : s.toCnt = s.params.timeoutCeiling
  · exact .inl ⟨h, by rw [checkTimeout, if_pos h]⟩
  · exact .inr ⟨h, by rw [checkTimeout, if_neg h]; rfl⟩

theorem checkTimeout_eq (s : State) :
    checkTimeout s = { s with fault := if s.toCnt = s.params.timeoutCeiling then .timeout else s.fault } := rfl

/-- What the liveness and the timeout part leave (rule R176, rule R177). -/
theorem finishTick_eq (s : State) :
    finishTick s =
      { s with
        led := !s.led
        toCnt := min (s.toCnt + 1) s.params.timeoutCeiling
        fault := if min (s.toCnt + 1) s.params.timeoutCeiling = s.params.timeoutCeiling then .timeout
          else s.fault } := by
  rw [finishTick, timeoutPart, checkTimeout_eq]
  rfl

theorem acceptCommand_eq (f : RxFrame) (s : State) :
    acceptCommand f s =
      { s with toCnt := 0, lastSeq := seqIndex f.data, pulses := { s.pulses with rxAck := true } } := rfl

@[simp] theorem nextInputs_cons (n : Inputs) (r : List Inputs) (s : State) (h : s.inputs = n :: r) :
    nextInputs s = n := by
  simp [nextInputs, h]

@[simp] theorem nextInputs_nil (s : State) (h : s.inputs = []) : nextInputs s = Inputs.idle := by
  simp [nextInputs, h]

end Sys2Proof.Machine
end

