-- ==== Sys2Proof/Laws/Exec.lean ====
section
/-! SUPPORT. What each operation leaves, as a plain function of the state: no operation faults or refuses. -/

namespace Sys2Proof.Machine

/-- The state an operation leaves. -/
def after : Instr → State → State
  | .reset, s => resetRegisters s
  | .ctrl a0 a1, s =>
    { s with
      pos0 := a0, pos1 := a1, dac0 := arbitrate s.fault a0 s.ovr0, dac1 := arbitrate s.fault a1 s.ovr1
      pulses := { s.pulses with dacWe := true, wdtFeed := true } }
  | .rxOtherId _, s => ackFrame s
  | .rxEscape f, s => ackFrame (requestEscape (escapeIndex s.params f.data) s)
  | .rxBadCrc _, s => ackFrame (raiseFault .badChecksum s)
  | .rxSeqGap f, s => ackFrame (recordSeq (seqIndex f.data) s)
  | .rxEnable f, s => acceptCommand f (writeOverrides (value0 f.data) (value1 f.data) s)
  | .rxRelease f, s => acceptCommand f (writeOverrides 0 0 (clearFault s))
  | .rxInvalid f, s => acceptCommand f (writeOverrides 0 0 (raiseFault .invalidCommand s))
  | .tickSend, s => finishTick (advanceTxIdx (sendFrame (statusFrame s) s))
  | .tickOverrun, s => finishTick (raiseFault .sendFailure s)
  | .txDone, s => s
  | .busErr, s => raiseFault .busError s
  | .crc8 b, s => { s with crcResult := crc8 b }

/-- Every operation answers the state `after` gives. -/
theorem exec_eq_after (i : Instr) (s : State) : exec i s = .next (after i s) := by
  cases i <;> rfl

/-- The inversion of an operation's answer. -/
theorem exec_next_iff {i : Instr} {s t : State} : exec i s = .next t ↔ after i s = t := by
  rw [exec_eq_after]
  exact ⟨fun h => Host.Outcome.next.inj h, fun h => h ▸ rfl⟩

/-- No operation writes the parameters (rule R61). -/
@[simp] theorem after_params (i : Instr) (s : State) : (after i s).params = s.params := by
  cases i <;> simp [after, acceptCommand, finishTick_eq]

/-- No operation touches the inputs still to come. -/
@[simp] theorem after_inputs (i : Instr) (s : State) : (after i s).inputs = s.inputs := by
  cases i <;> simp [after, acceptCommand, finishTick_eq]

end Sys2Proof.Machine
end

