-- ==== Sys2Proof/Laws/Frame.lean ====
section
/-! SUPPORT. The decoder's tests say what the frame predicates of Safety.lean say, and what a frame is
sorted into when they hold. -/

namespace Sys2Proof

open Machine

theorem commandFrame_iff {p : Params} {f : RxFrame} :
    CommandFrame p f ↔ isInbound p f = true ∧ isEscape p f.data = false := by
  simp [CommandFrame, isInbound, isEscape, frameWord, memReadRx]

theorem checksumValid_iff {d : RxData} : ChecksumValid d ↔ crcValid d = true := by
  unfold ChecksumValid crcValid
  exact decide_eq_true_iff.symm

theorem sequenceCorrect_iff {q : Nibble} {d : RxData} : SequenceCorrect q d ↔ isNext q d = true := by
  rw [isNext, decide_eq_true_iff, ← BitVec.toNat_inj, nextIndex, BitVec.toNat_add]
  rfl

theorem acceptedFrame_iff {p : Params} {q : Nibble} {f : RxFrame} :
    AcceptedFrame p q f ↔
      isInbound p f = true ∧ isEscape p f.data = false ∧ crcValid f.data = true ∧ isNext q f.data = true := by
  rw [AcceptedFrame, commandFrame_iff, checksumValid_iff, sequenceCorrect_iff, and_assoc]

theorem hiByte_be16 (a b : Byte) : hiByte (be16 a b) = a := BitVec.extractLsb'_append_eq_left

theorem loByte_be16 (a b : Byte) : loByte (be16 a b) = b := BitVec.extractLsb'_append_eq_right

theorem be16_eq_zero {a b : Byte} : be16 a b = 0 ↔ a = 0 ∧ b = 0 := by
  constructor
  · intro h
    exact ⟨(hiByte_be16 a b).symm.trans (congrArg hiByte h), (loByte_be16 a b).symm.trans (congrArg loByte h)⟩
  · rintro ⟨rfl, rfl⟩
    rfl

theorem zeroValues_iff {d : RxData} : ZeroValues d ↔ valuesZero d = true := by
  simp only [ZeroValues, valuesZero, value0, value1, memReadRx, Bool.and_eq_true, decide_eq_true_eq, be16_eq_zero,
    and_assoc]

/-- The frame of a step outside reset is sorted, and its outcome is among the step's operations. -/
theorem classify_mem_operations {p : Params} {q : Nibble} {n : Inputs} (hr : n.rst = false) (hv : n.rxValid = true) :
    classify p q n.rx ∈ operations p q n := by
  simp only [operations, hr, receiveAndTick, hv]
  cases n.tick <;> cases p.sameCycleOrder <;> simp

end Sys2Proof
end

