-- ==== Sys2Proof/Laws/PerInstr.lean ====
section
/-! SUPPORT. Facts about every operation as syntax, one lemma per constructor. -/

namespace Sys2Proof.Laws

/-- The bits of the event vector that an operation's table row fixes (opcode_table.json, "mask"). -/
def eventMask : Instr → EventVector
  | .reset => 0x20
  | .ctrl _ _ => 0x21
  | .rxOtherId _ | .rxEscape _ | .rxBadCrc _ | .rxSeqGap _ | .rxEnable _ | .rxRelease _ | .rxInvalid _ => 0x22
  | .tickSend | .tickOverrun => 0x64
  | .txDone => 0x28
  | .busErr => 0x30
  | .crc8 _ => 0

/-- What the row fixes them to (opcode_table.json, "match"). -/
def eventMatch : Instr → EventVector
  | .reset => 0x20
  | .ctrl _ _ => 0x01
  | .rxOtherId _ | .rxEscape _ | .rxBadCrc _ | .rxSeqGap _ | .rxEnable _ | .rxRelease _ | .rxInvalid _ => 0x02
  | .tickSend => 0x44
  | .tickOverrun => 0x04
  | .txDone => 0x08
  | .busErr => 0x10
  | .crc8 _ => 0

/-- The event vector of an operation's own ports carries the bits its table row fixes. -/
def EventBits.Statement (i : Instr) : Prop :=
  ∀ n, portsOf i = some n → eventVector n &&& eventMask i = eventMatch i

/-- The event vector depends on the strobes alone: that of a lone receive is E[1]. -/
theorem eventVector_receive (f : RxFrame) : eventVector { rxValid := true, rx := f } = 0x02 := by
  show BitVec.ofBool false ++ BitVec.ofBool false ++ BitVec.ofBool false ++ BitVec.ofBool false ++
    BitVec.ofBool false ++ BitVec.ofBool true ++ BitVec.ofBool false = 0x02#7
  decide

/-- That of a lone control-loop iteration is E[0]. -/
theorem eventVector_control (a0 a1 : Word16) : eventVector { ctrl := true, adc0 := a0, adc1 := a1 } = 0x01 := by
  show BitVec.ofBool false ++ BitVec.ofBool false ++ BitVec.ofBool false ++ BitVec.ofBool false ++
    BitVec.ofBool false ++ BitVec.ofBool false ++ BitVec.ofBool true = 0x01#7
  decide

theorem receive_masked : (0x02#7 &&& 0x22#7) = 0x02#7 := by decide

theorem control_masked : (0x01#7 &&& 0x21#7) = 0x01#7 := by decide

theorem EventBits.reset : EventBits.Statement .reset := by rintro n ⟨⟩; rfl
theorem EventBits.ctrl (a0 a1 : Word16) : EventBits.Statement (.ctrl a0 a1) := by
  rintro n ⟨⟩
  rw [eventVector_control]
  exact control_masked
theorem EventBits.rxOtherId (f : RxFrame) : EventBits.Statement (.rxOtherId f) := by
  rintro n ⟨⟩
  rw [eventVector_receive]
  exact receive_masked
theorem EventBits.rxEscape (f : RxFrame) : EventBits.Statement (.rxEscape f) := by
  rintro n ⟨⟩
  rw [eventVector_receive]
  exact receive_masked
theorem EventBits.rxBadCrc (f : RxFrame) : EventBits.Statement (.rxBadCrc f) := by
  rintro n ⟨⟩
  rw [eventVector_receive]
  exact receive_masked
theorem EventBits.rxSeqGap (f : RxFrame) : EventBits.Statement (.rxSeqGap f) := by
  rintro n ⟨⟩
  rw [eventVector_receive]
  exact receive_masked
theorem EventBits.rxEnable (f : RxFrame) : EventBits.Statement (.rxEnable f) := by
  rintro n ⟨⟩
  rw [eventVector_receive]
  exact receive_masked
theorem EventBits.rxRelease (f : RxFrame) : EventBits.Statement (.rxRelease f) := by
  rintro n ⟨⟩
  rw [eventVector_receive]
  exact receive_masked
theorem EventBits.rxInvalid (f : RxFrame) : EventBits.Statement (.rxInvalid f) := by
  rintro n ⟨⟩
  rw [eventVector_receive]
  exact receive_masked
theorem EventBits.tickSend : EventBits.Statement .tickSend := by rintro n ⟨⟩; rfl
theorem EventBits.tickOverrun : EventBits.Statement .tickOverrun := by rintro n ⟨⟩; rfl
theorem EventBits.txDone : EventBits.Statement .txDone := by rintro n ⟨⟩; rfl
theorem EventBits.busErr : EventBits.Statement .busErr := by rintro n ⟨⟩; rfl
theorem EventBits.crc8 (b : List Byte) : EventBits.Statement (.crc8 b) := by rintro n ⟨⟩

end Sys2Proof.Laws
end

