-- ==== Sys2Proof/Laws/Step.lean ====
section
/-! SUPPORT. A step as a plain function of the state. -/

namespace Sys2Proof.Machine

@[simp] theorem andThen_next (s : State) (f : State → Host.Outcome State Fault Refusal) :
    andThen (.next s) f = f s := rfl

@[simp] theorem runIf_true (f : State → Host.Outcome State Fault Refusal) (s : State) : runIf true f s = f s := rfl

@[simp] theorem runIf_false (f : State → Host.Outcome State Fault Refusal) (s : State) :
    runIf false f s = .next s := rfl

/-- Operations in sequence leave what their effects leave, one after another. -/
theorem runAll_eq (is : List Instr) (s : State) : runAll is s = .next (is.foldl (fun t i => after i t) s) := by
  induction is generalizing s with
  | nil => rfl
  | cons i is ih => rw [runAll, exec_eq_after, andThen_next, ih, List.foldl_cons]

/-- Only a receive writes the last-seen index, and a step has at most one: no other operation writes it. -/
theorem after_ctrl_lastSeq (a0 a1 : Word16) (s : State) : (after (.ctrl a0 a1) s).lastSeq = s.lastSeq := rfl

theorem after_tick_lastSeq (e : Bool) (s : State) : (after (tickOperation e) s).lastSeq = s.lastSeq := by
  cases e <;> simp [tickOperation, after, finishTick_eq]

/-- Both tick forms advance the timeout counter alike. -/
theorem after_tick_toCnt (e : Bool) (s : State) :
    (after (tickOperation e) s).toCnt = min (s.toCnt + 1) s.params.timeoutCeiling := by
  cases e <;> simp [tickOperation, after, finishTick_eq]

/-- The fault state a tick leaves: `timeout` at the ceiling; below it `send_failure` from a busy transmitter, else
what it was. -/
theorem after_tick_fault (e : Bool) (s : State) :
    (after (tickOperation e) s).fault =
      if s.params.timeoutCeiling ≤ s.toCnt + 1 then .timeout else if e then s.fault else .sendFailure := by
  cases e <;> simp [tickOperation, after, finishTick_eq]

/-- An operation that runs if its strobe is set, as a plain function. -/
def afterIf (strobe : Bool) (i : Instr) (s : State) : State := if strobe then after i s else s

@[simp] theorem afterIf_true (i : Instr) (s : State) : afterIf true i s = after i s := rfl

@[simp] theorem afterIf_false (i : Instr) (s : State) : afterIf false i s = s := rfl

@[simp] theorem afterIf_params (b : Bool) (i : Instr) (s : State) : (afterIf b i s).params = s.params := by
  cases b <;> simp

theorem afterIf_ctrl_lastSeq (b : Bool) (a0 a1 : Word16) (s : State) :
    (afterIf b (.ctrl a0 a1) s).lastSeq = s.lastSeq := by
  cases b <;> simp [after_ctrl_lastSeq]

theorem afterIf_tick_lastSeq (b e : Bool) (s : State) : (afterIf b (tickOperation e) s).lastSeq = s.lastSeq := by
  cases b <;> simp [after_tick_lastSeq]

theorem runIf_exec (b : Bool) (i : Instr) (s : State) : runIf b (exec i) s = .next (afterIf b i s) := by
  cases b <;> simp [exec_eq_after]

/-- What the receive and the tick of a step leave. -/
def afterReceiveAndTick (n : Inputs) (s : State) : State :=
  let rx := classify s.params s.lastSeq n.rx
  match s.params.sameCycleOrder with
  | .rxFirst => afterIf n.tick (tickOperation n.txEmpty) (afterIf n.rxValid rx s)
  | .tickFirst => afterIf n.rxValid rx (afterIf n.tick (tickOperation n.txEmpty) s)

theorem runReceiveAndTick_eq (n : Inputs) (s : State) :
    runReceiveAndTick n s = .next (afterReceiveAndTick n s) := by
  have sorted := fun e => after_tick_lastSeq e s
  unfold runReceiveAndTick afterReceiveAndTick
  cases n.rxValid <;> cases n.tick <;> cases s.params.sameCycleOrder <;>
    simp only [runReceive, runTick, exec_eq_after, andThen_next, afterIf_true, afterIf_false, after_params, sorted]

/-- What a step's events leave. -/
def afterEvents (n : Inputs) (s : State) : State :=
  if n.rst then resetRegisters s
  else
    afterIf n.busErr .busErr
      (afterIf n.txDone .txDone (afterReceiveAndTick n (afterIf n.ctrl (.ctrl n.adc0 n.adc1) s)))

theorem runEvents_eq (n : Inputs) (s : State) : runEvents n s = .next (afterEvents n s) := by
  unfold runEvents afterEvents
  cases n.rst
  · simp only [Bool.false_eq_true, if_false, runIf_exec, andThen_next, runReceiveAndTick_eq]
  · exact exec_eq_after .reset s

/-- The inversion of a step's answer. -/
theorem step_next_iff {s t : State} : step s = .next t ↔ afterEvents (nextInputs s) (beginStep s) = t := by
  rw [step, runStep, runEvents_eq]
  exact ⟨fun h => Host.Outcome.next.inj h, fun h => h ▸ rfl⟩

/-- The operations of a step, sorted by the strobe that selects each (rule R77). -/
theorem mem_operations {p : Params} {q : Nibble} {n : Inputs} {i : Instr} (h : i ∈ operations p q n) :
    (n.rst = true ∧ i = .reset) ∨
      (n.rst = false ∧
        ((n.ctrl = true ∧ i = .ctrl n.adc0 n.adc1) ∨ (n.rxValid = true ∧ i = classify p q n.rx) ∨
          (n.tick = true ∧ i = tickOperation n.txEmpty) ∨ (n.txDone = true ∧ i = .txDone) ∨
          (n.busErr = true ∧ i = .busErr))) := by
  unfold operations receiveAndTick at h
  cases hr : n.rst <;> cases hv : n.rxValid <;> cases ht : n.tick <;> cases ho : p.sameCycleOrder <;>
    simp [hr, hv, ht, ho] at h <;> tauto

/-- What a step's events leave is what its operations leave, one after another: only the receive writes
the last-seen index it is sorted by. -/
theorem foldl_operations (n : Inputs) (s : State) :
    (operations s.params s.lastSeq n).foldl (fun t i => after i t) s = afterEvents n s := by
  have one : ∀ (b : Bool) (i : Instr) (t : State),
      (if b = true then [i] else []).foldl (fun t i => after i t) t = afterIf b i t := by
    intro b i t
    cases b <;> rfl
  unfold operations afterEvents afterReceiveAndTick receiveAndTick
  cases n.rst
  · simp only [Bool.false_eq_true, if_false, List.foldl_append, one, afterIf_params, afterIf_ctrl_lastSeq]
    cases n.rxValid <;> cases n.tick <;> cases s.params.sameCycleOrder <;> rfl
  · rfl

/-- A property that holds at the start of a step and that each selected operation keeps holds at its end. -/
theorem afterEvents_keeps {P : State → Prop} {n : Inputs} {s : State} (start : P s)
    (keeps : ∀ i ∈ operations s.params s.lastSeq n, ∀ u, P u → P (after i u)) : P (afterEvents n s) := by
  rw [← foldl_operations]
  exact List.foldlRecOn _ _ start fun u hu i hi => keeps i hi u hu

/-- A run whose first step answers `s'` goes on from `s'`. -/
theorem core_run_succ {k : Nat} {s s' : State} (h : step s = .next s') :
    Sys2Proof.core.run (k + 1) s = Sys2Proof.core.run k s' := by
  have run_succ : ∀ (M : Host.Core) (u u' : M.State), M.step u = .next u' → M.run (k + 1) u = M.run k u' := by
    intro M u u' hu
    simp only [Host.Core.run, hu]
  exact run_succ _ _ _ h

end Sys2Proof.Machine
end

