-- ==== Sys2Proof/Laws/Wire.lean ====
section
/-! SUPPORT. The bits of values built from wire bytes: big-endian halves, the words W and T, the status byte. -/

namespace Sys2Proof.Machine

/-- A byte joined below a value: its bits are the low eight. -/
theorem getLsbD_joinByte (n : Nat) (x : BitVec n) (y : Byte) (i : Nat) :
    (x ++ y).getLsbD i = if i < 8 then y.getLsbD i else x.getLsbD (i - 8) := by
  rw [BitVec.getLsbD_append]

theorem be16_getLsbD (hi lo : Byte) (i : Nat) :
    (be16 hi lo).getLsbD i = if i < 8 then lo.getLsbD i else hi.getLsbD (i - 8) := getLsbD_joinByte 8 hi lo i

/-- The two halves of a 16-bit value make it again (rule R52). -/
@[simp] theorem be16_halves (v : Word16) : be16 (hiByte v) (loByte v) = v := by
  rw [be16, hiByte, loByte, BitVec.extractLsb'_append_extractLsb'_eq_extractLsb' (by omega)]
  exact BitVec.extractLsb'_eq_self

/-- The bits of W (rule R79). -/
theorem frameWord_getLsbD (d : RxData) (i : Nat) : (frameWord d).getLsbD i =
    if i < 8 then d.b7.getLsbD i
    else if i - 8 < 8 then d.b6.getLsbD (i - 8)
    else if i - 8 - 8 < 8 then d.b5.getLsbD (i - 8 - 8)
    else if i - 8 - 8 - 8 < 8 then d.b4.getLsbD (i - 8 - 8 - 8)
    else if i - 8 - 8 - 8 - 8 < 8 then d.b3.getLsbD (i - 8 - 8 - 8 - 8)
    else if i - 8 - 8 - 8 - 8 - 8 < 8 then d.b2.getLsbD (i - 8 - 8 - 8 - 8 - 8)
    else if i - 8 - 8 - 8 - 8 - 8 - 8 < 8 then d.b1.getLsbD (i - 8 - 8 - 8 - 8 - 8 - 8)
    else d.b0.getLsbD (i - 8 - 8 - 8 - 8 - 8 - 8 - 8) := by
  unfold frameWord
  simp only [memReadRx]
  rw [getLsbD_joinByte 56, getLsbD_joinByte 48, getLsbD_joinByte 40, getLsbD_joinByte 32, getLsbD_joinByte 24,
    getLsbD_joinByte 16, getLsbD_joinByte 8]

/-- The bits of T (rule R79). -/
theorem statusWord_getLsbD (t : TxData) (i : Nat) : (statusWord t).getLsbD i =
    if i < 8 then t.b5.getLsbD i
    else if i - 8 < 8 then t.b4.getLsbD (i - 8)
    else if i - 8 - 8 < 8 then t.b3.getLsbD (i - 8 - 8)
    else if i - 8 - 8 - 8 < 8 then t.b2.getLsbD (i - 8 - 8 - 8)
    else if i - 8 - 8 - 8 - 8 < 8 then t.b1.getLsbD (i - 8 - 8 - 8 - 8)
    else t.b0.getLsbD (i - 8 - 8 - 8 - 8 - 8) := by
  unfold statusWord
  rw [getLsbD_joinByte 40, getLsbD_joinByte 32, getLsbD_joinByte 24, getLsbD_joinByte 16, getLsbD_joinByte 8]

/-- The status byte is the fault code joined above the index (rule R75). -/
theorem statusByte_eq (c : FaultState) (x : Nibble) : statusByte c x = faultCode c ++ x := by
  cases c <;> (revert x; decide)

theorem nibbles_getLsbD (hi lo : Nibble) (i : Nat) :
    BitVec.getLsbD (w := 8) (hi ++ lo) i = if i < 4 then lo.getLsbD i else hi.getLsbD (i - 4) :=
  BitVec.getLsbD_append (x := hi) (y := lo) (i := i)

end Sys2Proof.Machine
end

