-- ==== Sys2Proof/Tests/Slice0.lean ====
section
/-! SUPPORT. Tests of the model by evaluation. Expected values come from 95_test_vectors.md (each test names
its row) or are written out from 30_encoding.md; the parameters are that file's test-bench values. -/

namespace Sys2Proof.Tests

open Machine

set_option maxRecDepth 20000

/-- The parameters of the vectors: ceiling 3, patterns P0 and P1, identifiers of no consequence. -/
def testParams : Params :=
  { timeoutCeiling := 3, idIn := 0x200, idOut := 0x201, escapePatterns := [0xCEFAADDE1E0BB00A, 0xCEFAADDE1E0BB002] }

/-- The reset values under the test parameters. -/
def bench : State := { State.reset with params := testParams }

/-- A state whose next step is presented `n`. -/
def present (n : Inputs) (s : State) : State := { s with inputs := [n] }

/-- A frame on the inbound identifier with a DLC of 8. -/
def cmd (b0 b1 b2 b3 b4 b5 b6 b7 : Byte) : RxFrame := ⟨0x200, 8, ⟨b0, b1, b2, b3, b4, b5, b6, b7⟩⟩

/-- Inputs that present the frame `f` and nothing else. -/
def receives (f : RxFrame) : Inputs := { rxValid := true, rx := f }

/-- A field of the next state. -/
def got (field : State → α) (o : Host.Outcome State Fault Refusal) : Option α :=
  match o with
  | .next s => some (field s)
  | .fault _ => none
  | .refused _ => none

/-- The enable command of row X1. -/
def enableX1 : RxFrame := cmd 0x00 0x64 0x00 0x32 0x80 0x6E 0 0

/-- The release command of row X8. -/
def releaseX8 : RxFrame := cmd 0 0 0 0 0x01 0x1F 0 0

/-- The invalid release of row X9. -/
def invalidX9 : RxFrame := cmd 0x00 0x01 0x00 0x00 0x02 0x1B 0 0

/-- The corrupted frame of row X2. -/
def corruptX2 : RxFrame := cmd 0x00 0x64 0x00 0x32 0x80 0x6F 0 0

/-- The frame of row RV-10, index 5 while 4 is expected. -/
def gapRV10 : RxFrame := cmd 0x00 0x64 0x00 0x32 0x85 0x7F 0 0

/-- The escape pattern P0 and P1 as frames. -/
def escapeP0 : RxFrame := cmd 0xCE 0xFA 0xAD 0xDE 0x1E 0x0B 0xB0 0x0A

def escapeP1 : RxFrame := cmd 0xCE 0xFA 0xAD 0xDE 0x1E 0x0B 0xB0 0x02

/-- Row RV-1: a valid command on another identifier. -/
def foreignRV1 : RxFrame := ⟨0x123, 8, ⟨0x00, 0x64, 0x00, 0x32, 0x81, 0xD8, 0, 0⟩⟩

/-! ## WellFormed refuses an ill-formed term, check by check -/

theorem test_wf_otherId_on_inbound : wellFormed testParams 15 (.rxOtherId enableX1) = false := by decide

theorem test_wf_escape_on_other_id :
    wellFormed testParams 15 (.rxEscape { escapeP0 with id := 0x123 }) = false := by decide

theorem test_wf_escape_without_pattern : wellFormed testParams 15 (.rxEscape enableX1) = false := by decide

theorem test_wf_badCrc_on_other_id :
    wellFormed testParams 15 (.rxBadCrc { corruptX2 with id := 0x123 }) = false := by decide

theorem test_wf_badCrc_on_escape : wellFormed testParams 15 (.rxBadCrc escapeP0) = false := by decide

theorem test_wf_badCrc_with_good_checksum : wellFormed testParams 15 (.rxBadCrc enableX1) = false := by decide

theorem test_wf_seqGap_with_bad_checksum : wellFormed testParams 3 (.rxSeqGap corruptX2) = false := by decide

theorem test_wf_seqGap_with_expected_index : wellFormed testParams 15 (.rxSeqGap enableX1) = false := by decide

theorem test_wf_enable_with_flag_clear : wellFormed testParams 0 (.rxEnable releaseX8) = false := by decide

theorem test_wf_enable_out_of_sequence : wellFormed testParams 3 (.rxEnable gapRV10) = false := by decide

theorem test_wf_release_with_flag_set : wellFormed testParams 15 (.rxRelease enableX1) = false := by decide

theorem test_wf_release_with_a_value : wellFormed testParams 1 (.rxRelease invalidX9) = false := by decide

theorem test_wf_invalid_with_zero_values : wellFormed testParams 0 (.rxInvalid releaseX8) = false := by decide

/-! ## Words written out from the encoding: E of rule R77, W of rule R79 -/

/-- Eight zero bytes. -/
def zeros : List Byte := [0, 0, 0, 0, 0, 0, 0, 0]

/-- The bytes of a step that presents `w`, byte 0 first, with a DLC of 8 on identifier `hi`, `lo`. -/
def frameBytes (w : List Byte) (hi lo : Byte) : List Byte := [0x02] ++ w ++ [hi, lo, 8] ++ [0, 0, 0, 0]

theorem test_decode_reset : decode testParams 0 ([0x20] ++ zeros ++ zeros.tail) = .ok .reset := by decide

theorem test_decode_reset_wins : decode testParams 0 ([0x7F] ++ zeros ++ zeros.tail) = .ok .reset := by decide

theorem test_decode_ctrl :
    decode testParams 0 ([0x01] ++ zeros ++ [0, 0, 0] ++ [0x01, 0x02, 0xA0, 0xB0]) = .ok (.ctrl 0x0102 0xA0B0) := by
  decide

theorem test_decode_rxOtherId :
    decode testParams 0 (frameBytes [0x00, 0x64, 0x00, 0x32, 0x81, 0xD8, 0, 0] 0x01 0x23) =
      .ok (.rxOtherId foreignRV1) := by decide

theorem test_decode_rxEscape :
    decode testParams 0 (frameBytes [0xCE, 0xFA, 0xAD, 0xDE, 0x1E, 0x0B, 0xB0, 0x0A] 0x02 0x00) =
      .ok (.rxEscape escapeP0) := by decide

theorem test_decode_rxBadCrc :
    decode testParams 15 (frameBytes [0x00, 0x64, 0x00, 0x32, 0x80, 0x6F, 0, 0] 0x02 0x00) =
      .ok (.rxBadCrc corruptX2) := by decide

theorem test_decode_rxSeqGap :
    decode testParams 3 (frameBytes [0x00, 0x64, 0x00, 0x32, 0x85, 0x7F, 0, 0] 0x02 0x00) =
      .ok (.rxSeqGap gapRV10) := by decide

theorem test_decode_rxEnable :
    decode testParams 15 (frameBytes [0x00, 0x64, 0x00, 0x32, 0x80, 0x6E, 0, 0] 0x02 0x00) =
      .ok (.rxEnable enableX1) := by decide

theorem test_decode_rxRelease :
    decode testParams 0 (frameBytes [0, 0, 0, 0, 0x01, 0x1F, 0, 0] 0x02 0x00) = .ok (.rxRelease releaseX8) := by decide

theorem test_decode_rxInvalid :
    decode testParams 1 (frameBytes [0, 1, 0, 0, 0x02, 0x1B, 0, 0] 0x02 0x00) = .ok (.rxInvalid invalidX9) := by decide

theorem test_decode_tickSend : decode testParams 0 ([0x44] ++ zeros ++ zeros.tail) = .ok .tickSend := by decide

theorem test_decode_tickOverrun : decode testParams 0 ([0x04] ++ zeros ++ zeros.tail) = .ok .tickOverrun := by decide

theorem test_decode_txDone : decode testParams 0 ([0x08] ++ zeros ++ zeros.tail) = .ok .txDone := by decide

theorem test_decode_busErr : decode testParams 0 ([0x10] ++ zeros ++ zeros.tail) = .ok .busErr := by decide

/-- CRC8 is selected by no event (rule R100). -/
theorem test_encode_crc8 : encode (.crc8 [0x00, 0x64]) = none := by decide

theorem test_decode_rejects :
    decode testParams 0 ([0x40] ++ zeros ++ zeros.tail) = .error .noOperation ∧
    decode testParams 0 ([0x14] ++ zeros ++ zeros.tail) = .error .severalOperations ∧
    decode testParams 0 ([0xA0] ++ zeros ++ zeros.tail) = .error .eventBit7 ∧
    decode testParams 0 ([0x02] ++ zeros ++ [0x08, 0, 8, 0, 0, 0, 0]) = .error .identifierTooWide ∧
    decode testParams 0 ([0x02] ++ zeros ++ [0x02, 0, 0x10, 0, 0, 0, 0]) = .error .dlcTooWide ∧
    decode testParams 0 [0x20] = .error .wrongLength := by decide

/-- The one-byte words of the operation table, as the host numbers them. -/
theorem test_table_words :
    decodeTableWord 8 0x20 = some .reset ∧ decodeTableWord 8 0x01 = some (.ctrl 0 0) ∧
    decodeTableWord 8 0x44 = some .tickSend ∧ decodeTableWord 8 0x04 = some .tickOverrun ∧
    decodeTableWord 8 0x08 = some .txDone ∧ decodeTableWord 8 0x10 = some .busErr ∧
    decodeTableWord 8 0x40 = none := ⟨rfl, rfl, rfl, rfl, rfl, rfl, rfl⟩

/-- A placed table word is what the first step after reset runs. -/
theorem test_placed_words :
    got (·.led) (step (State.reset.withFetchWord 8 0x44)) = some true ∧
    got (·.fault) (step (State.reset.withFetchWord 8 0x10)) = some .busError ∧
    got (·.pulses.wdtFeed) (step (State.reset.withFetchWord 8 0x01)) = some true := ⟨rfl, rfl, rfl⟩

/-! ## One step each -/

/-- Row RS-2: reset wins over every other strobe, and drives no pulse. -/
theorem test_reset_wins :
    got (fun t => (t.fault, t.txIdx, t.led, t.pulses))
      (step (present
        { receives releaseX8 with rst := true, ctrl := true, adc0 := 9, adc1 := 9, tick := true, txEmpty := true,
                                  txDone := true, busErr := true }
        { bench with fault := .noFault, txIdx := 4, led := true })) =
      some (.startup, 0, false, Pulses.idle) := by decide

/-- Row RS-1: every field. -/
theorem test_reset_every_field :
    got id (exec .reset
      { bench with fault := .invalidCommand, ovr0 := 1, ovr1 := 2, lastSeq := 9, txIdx := 7, toCnt := 2, pos0 := 3,
                   pos1 := 4, dac0 := 5, dac1 := 6, led := true }) = some bench := by decide

/-- Row X10: the maximum on each channel. -/
theorem test_ctrl_maximum :
    got (fun t => (t.pos0, t.pos1, t.dac0, t.dac1, t.pulses))
      (step (present { ctrl := true, adc0 := 0x0050, adc1 := 0x003C }
        { bench with fault := .noFault, ovr0 := 0x0064, ovr1 := 0x0032 })) =
      some (0x0050, 0x003C, 0x0064, 0x003C, { Pulses.idle with dacWe := true, wdtFeed := true }) := by decide

/-- Row CT-6: in `startup` the overrides are ignored. -/
theorem test_ctrl_startup :
    got (fun t => (t.dac0, t.dac1))
      (step (present { ctrl := true, adc0 := 1, adc1 := 2 } { bench with ovr0 := 0xFFFF, ovr1 := 0xFFFF })) =
      some (1, 2) := by decide

/-- Row RV-1. -/
theorem test_rxOtherId :
    got id (step (present (receives foreignRV1) { bench with fault := .noFault })) =
      some { bench with fault := .noFault, pulses := { Pulses.idle with rxAck := true } } := by decide

/-- Row RV-4: the second pattern; no register is written. -/
theorem test_rxEscape_second_pattern :
    got id (step (present (receives escapeP1) { bench with fault := .timeout, toCnt := 3 })) =
      some { bench with fault := .timeout, toCnt := 3,
                        pulses := { Pulses.idle with rxAck := true, escapeReq := true, escapeSel := 1 } } := by decide

/-- Row RV-6: a frame that is also a valid release is an escape frame. -/
theorem test_rxEscape_wins :
    got (fun t => (t.fault, t.pulses.escapeReq, t.pulses.escapeSel))
      (step (present (receives releaseX8)
        { bench with fault := .timeout, params := { testParams with escapePatterns := [0x00000000011F0000] } })) =
      some (.timeout, true, 0) := by decide

/-- Row X2b: the overrides stay. -/
theorem test_rxBadCrc :
    got (fun t => (t.fault, t.ovr0, t.ovr1, t.lastSeq, t.pulses.rxAck))
      (step (present (receives (cmd 0x00 0x64 0x00 0x32 0x80 0x00 0 0))
        { bench with fault := .noFault, ovr0 := 7, ovr1 := 9, lastSeq := 15 })) =
      some (.badChecksum, 7, 9, 15, true) := by decide

/-- Row RV-10: a gap records the index and leaves the counter. -/
theorem test_rxSeqGap :
    got (fun t => (t.fault, t.ovr0, t.ovr1, t.lastSeq, t.toCnt))
      (step (present (receives gapRV10)
        { bench with fault := .noFault, ovr0 := 9, ovr1 := 9, lastSeq := 3, toCnt := 2 })) =
      some (.noFault, 9, 9, 5, 2) := by decide

/-- Row RV-9: a duplicate. -/
theorem test_rxSeqGap_duplicate :
    got (fun t => (t.ovr0, t.lastSeq, t.toCnt))
      (step (present (receives (cmd 0x00 0x10 0x00 0x20 0x84 0x7B 0 0))
        { bench with fault := .noFault, ovr0 := 9, ovr1 := 9, lastSeq := 4, toCnt := 2 })) = some (9, 4, 2) := by decide

/-- Row X1: index 0 after 15; values (100, 50). -/
theorem test_rxEnable :
    got (fun t => (t.ovr0, t.ovr1, t.lastSeq, t.toCnt, t.fault))
      (step (present (receives enableX1) { bench with lastSeq := 15, toCnt := 2 })) =
      some (100, 50, 0, 0, .startup) := by decide

/-- Row RV-14: an enable with zero values is no release. -/
theorem test_rxEnable_zero_values :
    got (fun t => (t.fault, t.ovr0, t.ovr1, t.lastSeq))
      (step (present (receives (cmd 0 0 0 0 0x81 0x53 0 0)) { bench with fault := .badChecksum, ovr0 := 7, ovr1 := 7 })) =
      some (.badChecksum, 0, 0, 1) := by decide

/-- Row RV-19: bits 6:4 of byte 4 are ignored. -/
theorem test_rxRelease_ignored_bits :
    got (fun t => (t.fault, t.lastSeq))
      (step (present (receives (cmd 0 0 0 0 0x71 0xC9 0 0)) { bench with fault := .busError })) =
      some (.noFault, 1) := by decide

/-- Row RV-20: a release while `no_fault` still zeroes. -/
theorem test_rxRelease_zeroes :
    got (fun t => (t.fault, t.ovr0, t.ovr1, t.lastSeq, t.toCnt))
      (step (present (receives (cmd 0 0 0 0 0x0F 0x9A 0 0))
        { bench with fault := .noFault, ovr0 := 1, ovr1 := 2, lastSeq := 14, toCnt := 1 })) =
      some (.noFault, 0, 0, 15, 0) := by decide

/-- Row X6: one nonzero value, the last byte of value_1. -/
theorem test_rxInvalid :
    got (fun t => (t.fault, t.ovr0, t.ovr1, t.lastSeq, t.toCnt))
      (step (present (receives (cmd 0 0 0 1 0x0A 0xCE 0 0))
        { bench with fault := .noFault, ovr0 := 5, ovr1 := 6, lastSeq := 9, toCnt := 2 })) =
      some (.invalidCommand, 0, 0, 10, 0) := by decide

/-- Row X11: the frame sent. -/
theorem test_tickSend_frame :
    got (fun t => (t.pulses.txData, t.txIdx, t.toCnt, t.led, t.fault))
      (step (present { tick := true, txEmpty := true } { bench with pos0 := 0x0123, pos1 := 0x0456 })) =
      some (⟨0x01, 0x23, 0x04, 0x56, 0x40, 0xA3⟩, 1, 1, true, .startup) := by decide

/-- Row TS-3: the tick that raises `timeout` still sends code 0. -/
theorem test_tickSend_timeout :
    got (fun t => (t.fault, t.txIdx, t.toCnt, t.led, t.pulses.txData))
      (step (present { tick := true, txEmpty := true }
        { bench with fault := .noFault, txIdx := 3, toCnt := 2, pos0 := 0x0010, pos1 := 0x0020 })) =
      some (.timeout, 4, 3, true, ⟨0x00, 0x10, 0x00, 0x20, 0x03, 0x9F⟩) := by decide

/-- Row X3. -/
theorem test_tickOverrun :
    got (fun t => (t.fault, t.txIdx, t.toCnt, t.led, t.pulses))
      (step (present { tick := true } { bench with fault := .noFault, txIdx := 5 })) =
      some (.sendFailure, 5, 1, true, Pulses.idle) := by decide

/-- Row OV-3: `send_failure` then `timeout` in one tick. -/
theorem test_tickOverrun_timeout :
    got (fun t => (t.fault, t.toCnt))
      (step (present { tick := true } { bench with fault := .noFault, toCnt := 2 })) = some (.timeout, 3) := by decide

/-- Row TD-2. -/
theorem test_txDone :
    got id (step (present { txDone := true } { bench with fault := .sendFailure, txIdx := 3 })) =
      some { bench with fault := .sendFailure, txIdx := 3 } := by decide

/-- Row BE-3. -/
theorem test_busErr :
    got id (step (present { busErr := true } { bench with fault := .timeout, toCnt := 3 })) =
      some { bench with fault := .busError, toCnt := 3 } := by decide

/-- Row BE-4: a release and a bus error in one step. -/
theorem test_busErr_after_release :
    got (fun t => (t.fault, t.ovr0, t.lastSeq, t.toCnt))
      (step (present { receives releaseX8 with busErr := true }
        { bench with fault := .timeout, ovr0 := 3, ovr1 := 3, toCnt := 2 })) = some (.busError, 0, 1, 0) := by decide

/-- Rows CK-1, CK-8, CK-9, CK-18: the empty string, the byte order, nine bytes. -/
theorem test_crc8 :
    got (·.crcResult) (exec (.crc8 []) bench) = some 0xFF ∧
    got (·.crcResult) (exec (.crc8 [0x00, 0x64, 0x00, 0x32, 0x80]) bench) = some 0x6E ∧
    got (·.crcResult) (exec (.crc8 [0x80, 0x32, 0x00, 0x64, 0x00]) bench) = some 0xDA ∧
    got (·.crcResult) (exec (.crc8 [0x31, 0x32, 0x33, 0x34, 0x35, 0x36, 0x37, 0x38, 0x39]) bench) = some 0xA4 := by
  decide

/-- Rows TO-7 and TO-7b: the two orders of a release and a tick at a ceiling of 1. -/
theorem test_same_cycle_order :
    got (fun t => (t.fault, t.toCnt, t.pulses.txData.b5))
      (step (present { receives releaseX8 with tick := true, txEmpty := true }
        { bench with fault := .timeout, params := { testParams with timeoutCeiling := 1 } })) =
      some (.timeout, 1, 0xA9) ∧
    got (fun t => (t.fault, t.toCnt, t.pulses.txData.b5))
      (step (present { receives releaseX8 with tick := true, txEmpty := true }
        { bench with
          fault := .timeout, params := { testParams with timeoutCeiling := 1, sameCycleOrder := .tickFirst } })) =
      some (.noFault, 0, 0x6C) := by decide

/-! ## Witnesses: for each statement with hypotheses, an input that meets them, clause by clause -/

/-- Every frame predicate of Safety.lean at the frames above: the tests of the sorting, written out. -/
theorem witness_frames :
    (CommandFrame testParams enableX1 ∧ ¬ CommandFrame testParams escapeP0 ∧ ¬ CommandFrame testParams foreignRV1) ∧
    (ChecksumValid enableX1.data ∧ ¬ ChecksumValid corruptX2.data) ∧
    (SequenceCorrect 15 enableX1.data ∧ ¬ SequenceCorrect 3 gapRV10.data) ∧
    (ZeroValues releaseX8.data ∧ ¬ ZeroValues invalidX9.data) := by
  unfold CommandFrame ChecksumValid SequenceCorrect ZeroValues
  decide

theorem witness_accepted :
    AcceptedFrame testParams 15 enableX1 ∧ AcceptedFrame testParams 0 releaseX8 ∧
      AcceptedFrame testParams 1 invalidX9 := by
  unfold AcceptedFrame CommandFrame ChecksumValid SequenceCorrect
  decide

theorem witness_ControlLoopLatchesAndDrives :
    ∃ n : Inputs, n.rst = false ∧ n.ctrl = true ∧ n.busErr = true := ⟨{ ctrl := true, busErr := true }, rfl, rfl, rfl⟩

theorem witness_ForeignFrameIsOnlyAcknowledged :
    ∃ n : Inputs, n.rst = false ∧ n.rxValid = true ∧ n.rx.id ≠ testParams.idIn :=
  ⟨receives foreignRV1, rfl, rfl, by decide⟩

theorem witness_EscapeFrameRequestsLeastPattern :
    (∃ n : Inputs, n.rst = false ∧ n.rxValid = true ∧ n.rx.id = testParams.idIn ∧ ¬ CommandFrame testParams n.rx) ∧
    (∃ k : Nat, bench.params.escapePatterns[k]? = some (frameWord escapeP0.data) ∧
      ∀ j < k, bench.params.escapePatterns[j]? ≠ some (frameWord escapeP0.data)) ∧
    ∃ k : Nat, bench.params.escapePatterns[k]? = some (frameWord escapeP1.data) ∧
      ∀ j < k, bench.params.escapePatterns[j]? ≠ some (frameWord escapeP1.data) :=
  ⟨⟨receives escapeP0, rfl, rfl, rfl, witness_frames.1.2.1⟩, ⟨0, by decide, by decide⟩, ⟨1, by decide, by decide⟩⟩

theorem witness_BadChecksumRaisesAndDiscards :
    ∃ n : Inputs, n.rst = false ∧ n.rxValid = true ∧ CommandFrame testParams n.rx ∧ ¬ ChecksumValid n.rx.data :=
  ⟨receives corruptX2, rfl, rfl, by unfold CommandFrame; decide, witness_frames.2.1.2⟩

theorem witness_SequenceGapOnlyRecordsIndex :
    ∃ n : Inputs, n.rst = false ∧ n.rxValid = true ∧ CommandFrame testParams n.rx ∧ ChecksumValid n.rx.data ∧
      ¬ SequenceCorrect 3 n.rx.data :=
  ⟨receives gapRV10, rfl, rfl, by unfold CommandFrame; decide, by unfold ChecksumValid; decide, witness_frames.2.2.1.2⟩

theorem witness_EnableWritesOverrides :
    ∃ n : Inputs, n.rst = false ∧ n.rxValid = true ∧ AcceptedFrame testParams 15 n.rx ∧
      n.rx.data.b4.getLsbD 7 = true :=
  ⟨receives enableX1, rfl, rfl, witness_accepted.1, by decide⟩

theorem witness_ReleaseClearsFaultAndOverrides :
    (∃ n : Inputs, n.rst = false ∧ n.rxValid = true ∧ AcceptedFrame testParams 0 n.rx ∧
      n.rx.data.b4.getLsbD 7 = false ∧ ZeroValues n.rx.data) ∧
    ∃ (i : Instr) (t : State), exec i bench = .next t ∧ bench.fault ≠ .noFault ∧ t.fault = .noFault :=
  ⟨⟨receives releaseX8, rfl, rfl, witness_accepted.2.1, by decide, witness_frames.2.2.2.1⟩,
    ⟨.rxRelease releaseX8, _, rfl, by decide, rfl⟩⟩

theorem witness_InvalidReleaseRaisesAndZeroes :
    ∃ n : Inputs, n.rst = false ∧ n.rxValid = true ∧ AcceptedFrame testParams 1 n.rx ∧
      n.rx.data.b4.getLsbD 7 = false ∧ ¬ ZeroValues n.rx.data :=
  ⟨receives invalidX9, rfl, rfl, witness_accepted.2.2, by decide, witness_frames.2.2.2.2⟩

theorem witness_BusErrorIsForcedLast :
    ∃ n : Inputs, n.rst = false ∧ n.busErr = true ∧ n.rxValid = true ∧ n.tick = true :=
  ⟨{ receives releaseX8 with busErr := true, tick := true }, rfl, rfl, rfl, rfl⟩

theorem witness_ChecksumIsAffine :
    ([0x00, 0x64, 0x00, 0x32, 0x80] : List Byte).length = ([0, 0, 0, 0, 1] : List Byte).length := rfl

/-- A valid frame, with the first and the last bit as the flipped pair and as a single flipped bit. -/
theorem witness_OneAndTwoBitErrorsAreDetected :
    ∃ (d : RxData) (i j : Fin 48), ChecksumValid d ∧ i = 0 ∧ j = 47 := ⟨enableX1.data, 0, 47, witness_frames.2.1.1, rfl, rfl⟩

theorem witness_DecodeInvertsEncode :
    wellFormed testParams 15 (.rxEnable enableX1) = true ∧
      encode (.rxEnable enableX1) = some (frameBytes [0x00, 0x64, 0x00, 0x32, 0x80, 0x6E, 0, 0] 0x02 0x00) := by decide

theorem witness_StepRunsTheDecodedOperation :
    ∃ (s : State) (n : Inputs) (bytes : List Byte),
      s.inputs = [n] ∧ unpack bytes = .ok n ∧ decode s.params s.lastSeq bytes = .ok .tickSend :=
  ⟨present { tick := true, txEmpty := true } bench, _, [0x44] ++ zeros ++ zeros.tail, rfl, rfl, rfl⟩

theorem witness_PlacedWordRunsNext :
    0x44 % 2 ^ 8 < 2 ^ 128 ∧ decode bench.params bench.lastSeq (bytesOfWord 8 0x44) = .ok .tickSend := by decide

theorem witness_IdleStepChangesNothing :
    (∃ s : State, s.inputs = [] ∧ (nextInputs s).rst = false ∧ (nextInputs s).ctrl = false ∧
      (nextInputs s).rxValid = false ∧ (nextInputs s).tick = false ∧ (nextInputs s).txDone = false ∧
      (nextInputs s).busErr = false) ∧
    ∃ s : State, (nextInputs s).txEmpty = true ∧ (nextInputs s).rst = false ∧ (nextInputs s).ctrl = false ∧
      (nextInputs s).rxValid = false ∧ (nextInputs s).tick = false ∧ (nextInputs s).txDone = false ∧
      (nextInputs s).busErr = false :=
  ⟨⟨bench, rfl, rfl, rfl, rfl, rfl, rfl, rfl⟩, ⟨present { txEmpty := true } bench, rfl, rfl, rfl, rfl, rfl, rfl, rfl⟩⟩

theorem witness_ResetOverridesEveryOtherEvent :
    ∃ s : State, (nextInputs s).rst = true ∧ (nextInputs s).busErr = true :=
  ⟨present { rst := true, busErr := true } bench, rfl, rfl⟩

theorem witness_BusErrorWinsItsStep :
    ∃ (s : State) (n : Inputs), s.inputs = [n] ∧ n.rst = false ∧ n.busErr = true :=
  ⟨present { busErr := true } bench, _, rfl, rfl, rfl⟩

/-- Both orders: the parameters are a field of the state. -/
theorem witness_SameCycleOrderDecidesReleaseAgainstTick :
    ∀ o : SameCycleOrder, ∃ (s : State) (n : Inputs), s.inputs = [n] ∧ s.params.timeoutCeiling = 1 ∧
      s.params.sameCycleOrder = o ∧ n.rst = false ∧ n.busErr = false ∧ n.rxValid = true ∧ n.tick = true ∧
      AcceptedFrame s.params s.lastSeq n.rx ∧ n.rx.data.b4.getLsbD 7 = false ∧ ZeroValues n.rx.data :=
  fun o => ⟨present { receives releaseX8 with tick := true }
      { bench with params := { testParams with timeoutCeiling := 1, sameCycleOrder := o } },
    _, rfl, rfl, rfl, rfl, rfl, rfl, rfl, witness_accepted.2.1, by decide, witness_frames.2.2.2.1⟩

theorem witness_OnlyReleaseReachesNoFault :
    ∃ s t : State, step s = .next t ∧ s.fault ≠ .noFault ∧ t.fault = .noFault :=
  ⟨present (receives releaseX8) bench, _, rfl, by decide, by decide⟩

theorem witness_StartupIsEnteredOnlyByReset :
    ∃ s t : State, step s = .next t ∧ t.fault = .startup ∧ s.fault ≠ .startup :=
  ⟨present { rst := true } { bench with fault := .timeout }, _, rfl, rfl, by decide⟩

/-- The three clauses: valid and next in order across the wrap, valid only, and neither. -/
theorem witness_LastSeenIndexFollowsValidFrames :
    (∃ f, CommandFrame testParams f ∧ ChecksumValid f.data ∧ AcceptedFrame testParams 15 f) ∧
    (∃ f, CommandFrame testParams f ∧ ChecksumValid f.data ∧ ¬ AcceptedFrame testParams 3 f) ∧
    ∃ f, ¬ (CommandFrame testParams f ∧ ChecksumValid f.data) :=
  ⟨⟨enableX1, witness_accepted.1.1, witness_accepted.1.2.1, witness_accepted.1⟩,
    ⟨gapRV10, by unfold CommandFrame; decide, by unfold ChecksumValid; decide, fun h => witness_frames.2.2.1.2 h.2.2⟩,
    ⟨corruptX2, fun h => witness_frames.2.1.2 h.2⟩⟩

/-- A step of an accepted command that changes an override, one of a reset, and one of neither. -/
theorem witness_OverridesChangeOnlyByAcceptedCommands :
    (∃ s t : State, step s = .next t ∧ t.ovr0 ≠ s.ovr0 ∧ (nextInputs s).rst = false) ∧
    (∃ s t : State, step s = .next t ∧ t.ovr0 ≠ s.ovr0 ∧ (nextInputs s).rst = true) ∧
    ∃ s t : State, step s = .next t ∧ t.ovr0 = s.ovr0 ∧ t.fault ≠ s.fault :=
  ⟨⟨present (receives enableX1) { bench with lastSeq := 15 }, _, rfl, by decide, rfl⟩,
    ⟨present { rst := true } { bench with ovr0 := 1 }, _, rfl, by decide, rfl⟩,
    ⟨present { busErr := true } bench, _, rfl, rfl, by decide⟩⟩

/-- A tick that hands a frame over at index 15, a busy tick, and a step without a tick. -/
theorem witness_TransmitIndexCountsFrames :
    (∃ s t : State, step s = .next t ∧ (nextInputs s).rst = false ∧ t.pulses.txValid = true ∧ s.txIdx = 15) ∧
    (∃ s t : State, step s = .next t ∧ (nextInputs s).rst = false ∧ t.pulses.txValid = false ∧
      (nextInputs s).tick = true ∧ (nextInputs s).txEmpty = false) ∧
    ∃ s t : State, step s = .next t ∧ (nextInputs s).rst = false ∧ t.pulses.txValid = false ∧
      (nextInputs s).tick = false :=
  ⟨⟨present { tick := true, txEmpty := true } { bench with txIdx := 15 }, _, rfl, rfl, rfl, rfl⟩,
    ⟨present { tick := true } bench, _, rfl, rfl, rfl, rfl, rfl⟩, ⟨bench, _, rfl, rfl, rfl, rfl⟩⟩

theorem witness_FrameIsSentExactlyByAnIdleTransmitterTick :
    (∃ s t : State, step s = .next t ∧ t.outputs.txValid = true) ∧
    ∃ s t : State, step s = .next t ∧ t.outputs.txValid = false ∧ (nextInputs s).tick = true :=
  ⟨⟨present { tick := true, txEmpty := true } bench, _, rfl, rfl⟩, ⟨present { tick := true } bench, _, rfl, rfl, rfl⟩⟩

theorem witness_EveryTickTogglesLiveness : ∃ t : State, exec .tickSend bench = .next t ∧ t.led = true := ⟨_, rfl, rfl⟩

theorem witness_WatchdogIsFedExactlyByTheControlLoop :
    (∃ s t : State, step s = .next t ∧ t.outputs.wdtFeed = true ∧ s.fault = .timeout) ∧
    ∃ s t : State, step s = .next t ∧ t.outputs.wdtFeed = false ∧ (nextInputs s).ctrl = true :=
  ⟨⟨present { ctrl := true } { bench with fault := .timeout }, _, rfl, rfl, rfl⟩,
    ⟨present { ctrl := true, rst := true } bench, _, rfl, rfl, rfl⟩⟩

theorem witness_EveryFrameIsAcknowledged :
    (∃ s t : State, step s = .next t ∧ t.outputs.rxAck = true ∧ (nextInputs s).rx = foreignRV1) ∧
    ∃ s t : State, step s = .next t ∧ t.outputs.rxAck = false :=
  ⟨⟨present (receives foreignRV1) bench, _, rfl, rfl, rfl⟩, ⟨bench, _, rfl, rfl⟩⟩

/-- The three cases: no iteration, an iteration in a fault state, an iteration in `no_fault`. -/
theorem witness_AnalogOutputChangesOnlyAtTheControlLoop :
    (∃ s t : State, step s = .next t ∧ (nextInputs s).rst = false ∧ (nextInputs s).ctrl = false) ∧
    (∃ s t : State, step s = .next t ∧ (nextInputs s).rst = false ∧ (nextInputs s).ctrl = true ∧ s.fault ≠ .noFault) ∧
    ∃ s t : State, step s = .next t ∧ (nextInputs s).rst = false ∧ (nextInputs s).ctrl = true ∧ s.fault = .noFault :=
  ⟨⟨bench, _, rfl, rfl, rfl⟩, ⟨present { ctrl := true } bench, _, rfl, rfl, rfl, by decide⟩,
    ⟨present { ctrl := true } { bench with fault := .noFault }, _, rfl, rfl, rfl, rfl⟩⟩

/-- Two valid frames with the same values and index, other DLC, other bytes 6 and 7, other bits 6:4 of byte 4. -/
theorem witness_IgnoredFieldsMakeNoDifference :
    ∃ (s : State) (n : Inputs) (g : RxFrame),
      CommandFrame s.params n.rx ∧ CommandFrame s.params g ∧ g.dlc ≠ n.rx.dlc ∧ g.data.b4 ≠ n.rx.data.b4 ∧
      g.data.b6 ≠ n.rx.data.b6 ∧ g.data.b0 = n.rx.data.b0 ∧ g.data.b1 = n.rx.data.b1 ∧ g.data.b2 = n.rx.data.b2 ∧
      g.data.b3 = n.rx.data.b3 ∧ g.data.b4.getLsbD 7 = n.rx.data.b4.getLsbD 7 ∧
      g.data.b4.extractLsb' 0 4 = n.rx.data.b4.extractLsb' 0 4 ∧ (ChecksumValid g.data ↔ ChecksumValid n.rx.data) :=
  ⟨bench, receives releaseX8, { cmd 0 0 0 0 0x71 0xC9 0xAA 0x55 with dlc := 6 }, by
    unfold CommandFrame ChecksumValid; decide⟩

theorem witness_ParametersNeverChange : ∃ s t : State, step s = .next t ∧ t.fault ≠ s.fault :=
  ⟨present { busErr := true } bench, _, rfl, by decide⟩

theorem witness_LastSeenIndexIsHidden : ∃ s : State, (nextInputs s).rxValid = false ∧ (nextInputs s).tick = true :=
  ⟨present { tick := true } bench, rfl, rfl⟩

/-- Indices 15 and 0: the peer's index wraps. -/
theorem witness_FirstFrameAfterResetResynchronises :
    ∃ (s : State) (f g : RxFrame), exec .reset s = .next s ∧ CommandFrame s.params f ∧ ChecksumValid f.data ∧
      f.data.b4.extractLsb' 0 4 ≠ 1 ∧
      (g.data.b4.extractLsb' 0 4).toNat = ((f.data.b4.extractLsb' 0 4).toNat + 1) % 16 ∧
      CommandFrame s.params g ∧ ChecksumValid g.data :=
  ⟨bench, cmd 0 0 0 0 0x0F 0x9A 0 0, enableX1, rfl, by unfold CommandFrame ChecksumValid; decide⟩

theorem witness_StepKeepsLegalStates :
    ∃ s t : State, LegalState s ∧ step s = .next t ∧ s.toCnt = s.params.timeoutCeiling :=
  ⟨present { tick := true } { bench with toCnt := 3 }, _, ⟨by decide, by decide⟩, rfl, rfl⟩

theorem witness_StepKeepsOutputCoveringReading :
    ∃ s t : State, OutputCoversReading s ∧ step s = .next t ∧ s.pos0 ≠ s.dac0 :=
  ⟨present { ctrl := true, adc0 := 0xFFFF } { bench with dac0 := 5 }, _,
    by unfold OutputCoversReading; decide, rfl, by decide⟩

theorem witness_StaleOverridesNeverReachAnOutput :
    ∃ s t s' : State, SameButStaleOverrides s t ∧ Sys2Proof.core.run 1 s = .next s' ∧ s.ovr0 ≠ t.ovr0 ∧
      s'.fault = .noFault :=
  ⟨present (receives releaseX8) bench, present (receives releaseX8) { bench with ovr0 := 7 }, _,
    ⟨rfl, fun h => by cases h⟩, rfl, by decide, by decide⟩

/-- One tick short of the ceiling (ticks that find the transmitter empty, and a busy one), at it, and past it. -/
theorem witness_TimeoutIsRaisedAtTheCeiling :
    let t : Inputs := { tick := true, txEmpty := true }
    let busy : Inputs := { tick := true }
    bench.toCnt ≤ bench.params.timeoutCeiling ∧
    (∀ n ∈ [t, busy], n.rst = false ∧ n.rxValid = false ∧ n.busErr = false) ∧
    (∀ n ∈ [t, t], n.tick = true → n.txEmpty = true) ∧
    bench.toCnt + tickCount [t, busy] < bench.params.timeoutCeiling ∧
    got (·.fault) (runOn [t, busy] bench) = some .sendFailure ∧
    got (·.fault) (runOn [t, t] { bench with fault := .timeout }) = some .timeout ∧
    bench.params.timeoutCeiling = bench.toCnt + tickCount [t, t, t] ∧
    bench.params.timeoutCeiling < bench.toCnt + tickCount [t, t, t, t] := by decide

end Sys2Proof.Tests
end

section
/-! The checksum function against the shift register of rule R100. -/

namespace Sys2Proof.Machine

/-- The inner loop of rule R100 as an iteration of its one shift step. -/
theorem crcByte_eq_iterate_crcShift (c : Byte) : crcByte c = crcShift^[8] c := rfl

/-- Settles O16: the two equations of `crc8`, with the inner loop read as eight shift steps. -/
theorem checksumFollowsItsShiftRegister : Obligations.ChecksumFollowsItsShiftRegister := by
  refine ⟨crc8_nil, fun x bs => ?_⟩
  calc crc8 (x :: bs)
      = crcByte (crc8 bs ^^^ x) := crc8_cons x bs
    _ = crcShift^[8] (crc8 bs ^^^ x) := crcByte_eq_iterate_crcShift _

end Sys2Proof.Machine
end

section
/-! What a command frame is sorted into, in the terms of Safety.lean (rule R121). -/

namespace Sys2Proof

open Machine

/-- A frame on another identifier fails the first test of rule R121. -/
theorem classify_of_foreign {p : Params} {f : RxFrame} (hid : f.id ≠ p.idIn) (q : Nibble) :
    classify p q f = .rxOtherId f := by
  simp [classify, isInbound, hid]

/-- On the inbound identifier, a frame that is no command is an escape frame (rule R71, rule R72). -/
theorem classify_of_escape {p : Params} {f : RxFrame} (hid : f.id = p.idIn) (hc : ¬ CommandFrame p f)
    (q : Nibble) : classify p q f = .rxEscape f := by
  have hin : isInbound p f = true := decide_eq_true hid
  have hesc : isEscape p f.data = true := by simpa [commandFrame_iff, hin] using hc
  simp [classify, hin, hesc]

/-- A command frame with a bad checksum fails the third test of rule R121, after it passes the first two. -/
theorem classify_of_badChecksum {p : Params} {f : RxFrame} (hc : CommandFrame p f) (hx : ¬ ChecksumValid f.data)
    (q : Nibble) : classify p q f = .rxBadCrc f := by
  obtain ⟨hin, hesc⟩ := commandFrame_iff.mp hc
  rw [checksumValid_iff] at hx
  simp [classify, hin, hesc, hx]

/-- A checksum-valid command with another index than the next one fails the fourth test of rule R121. -/
theorem classify_of_sequenceGap {p : Params} {q : Nibble} {f : RxFrame} (hc : CommandFrame p f)
    (hx : ChecksumValid f.data) (hq : ¬ SequenceCorrect q f.data) : classify p q f = .rxSeqGap f := by
  obtain ⟨hin, hesc⟩ := commandFrame_iff.mp hc
  rw [checksumValid_iff] at hx
  rw [sequenceCorrect_iff] at hq
  simp [classify, hin, hesc, hx, hq]

/-- An accepted command passes the first four tests of rule R121: flag and values decide. -/
theorem classify_of_accepted {p : Params} {q : Nibble} {f : RxFrame} (h : AcceptedFrame p q f) :
    classify p q f =
      if enableFlag f.data then .rxEnable f else if valuesZero f.data then .rxRelease f else .rxInvalid f := by
  obtain ⟨hin, hesc, hcrc, hnext⟩ := acceptedFrame_iff.mp h
  simp [classify, hin, hesc, hcrc, hnext]

theorem classify_of_enable {p : Params} {q : Nibble} {f : RxFrame} (h : AcceptedFrame p q f)
    (hen : f.data.b4.getLsbD 7 = true) : classify p q f = .rxEnable f := by
  rw [classify_of_accepted h]
  exact if_pos hen

theorem classify_of_disable {p : Params} {q : Nibble} {f : RxFrame} (h : AcceptedFrame p q f)
    (hen : f.data.b4.getLsbD 7 = false) :
    classify p q f = if valuesZero f.data then .rxRelease f else .rxInvalid f := by
  rw [classify_of_accepted h]
  exact if_neg (Bool.eq_false_iff.mp hen)

theorem classify_of_release {p : Params} {q : Nibble} {f : RxFrame} (h : AcceptedFrame p q f)
    (hen : f.data.b4.getLsbD 7 = false) (hz : ZeroValues f.data) : classify p q f = .rxRelease f := by
  rw [classify_of_disable h hen, if_pos (zeroValues_iff.mp hz)]

theorem classify_of_invalid {p : Params} {q : Nibble} {f : RxFrame} (h : AcceptedFrame p q f)
    (hen : f.data.b4.getLsbD 7 = false) (hz : ¬ ZeroValues f.data) : classify p q f = .rxInvalid f := by
  rw [classify_of_disable h hen, if_neg (zeroValues_iff.not.mp hz)]

/-- A checksum-valid command frame is sorted into one of the four outcomes that record its index. -/
theorem classify_of_checksumValid {p : Params} {f : RxFrame} (hc : CommandFrame p f) (hx : ChecksumValid f.data)
    (q : Nibble) :
    classify p q f = .rxSeqGap f ∨ classify p q f = .rxEnable f ∨ classify p q f = .rxRelease f ∨
      classify p q f = .rxInvalid f := by
  by_cases hq : SequenceCorrect q f.data
  · rw [classify_of_accepted ⟨hc, hx, hq⟩]
    cases enableFlag f.data <;> cases valuesZero f.data <;> simp
  · exact .inl (classify_of_sequenceGap hc hx hq)

/-- Every other frame is sorted into one of the three outcomes that leave the last-seen index. -/
theorem classify_of_not_checksumValid {p : Params} {f : RxFrame} (h : ¬ (CommandFrame p f ∧ ChecksumValid f.data))
    (q : Nibble) :
    classify p q f = .rxOtherId f ∨ classify p q f = .rxEscape f ∨ classify p q f = .rxBadCrc f := by
  by_cases hid : f.id = p.idIn
  · by_cases hc : CommandFrame p f
    · exact .inr (.inr (classify_of_badChecksum hc (fun hx => h ⟨hc, hx⟩) q))
    · exact .inr (.inl (classify_of_escape hid hc q))
  · exact .inl (classify_of_foreign hid q)

end Sys2Proof
end

section
/-! The obligations of 41_command_validator.md: what a received command leaves. -/

namespace Sys2Proof.Machine

/-- A checksum-valid command frame leaves its index as the last-seen index, whichever outcome it has (rule R126). -/
theorem after_classify_lastSeq_of_checksumValid {s : State} {f : RxFrame} (hc : CommandFrame s.params f)
    (hx : ChecksumValid f.data) : (after (classify s.params s.lastSeq f) s).lastSeq = f.data.b4.extractLsb' 0 4 := by
  obtain h | h | h | h := classify_of_checksumValid hc hx s.lastSeq <;> rw [h] <;> rfl

/-- Every other frame leaves the last-seen index alone (rule R126). -/
theorem after_classify_lastSeq_of_not_checksumValid {s : State} {f : RxFrame}
    (h : ¬ (CommandFrame s.params f ∧ ChecksumValid f.data)) :
    (after (classify s.params s.lastSeq f) s).lastSeq = s.lastSeq := by
  obtain h | h | h := classify_of_not_checksumValid h s.lastSeq <;> rw [h] <;> rfl

/-- Settles O39: the outcome of a checksum-valid command records its index, and the index of an accepted one is
the next after the old; the three other outcomes record none. -/
theorem lastSeenIndexFollowsValidFrames : Obligations.LastSeenIndexFollowsValidFrames := by
  intro s f
  refine ⟨_, exec_eq_after _ s, ?valid, ?accepted, ?other⟩
  case valid => exact fun ⟨hc, hx⟩ => after_classify_lastSeq_of_checksumValid hc hx
  case accepted =>
    rintro ⟨hc, hx, hnext⟩
    rw [after_classify_lastSeq_of_checksumValid hc hx]
    exact hnext
  case other => exact after_classify_lastSeq_of_not_checksumValid

/-- Settles O6: the sorting by `classify_of_badChecksum`, the effect by the operation's own equation. -/
theorem badChecksumRaisesAndDiscards : Obligations.BadChecksumRaisesAndDiscards := by
  refine ⟨fun p q n hr hv hc hx => ?_, fun f s => exec_eq_after (.rxBadCrc f) s⟩
  rw [← classify_of_badChecksum hc hx q]
  exact classify_mem_operations hr hv

/-- Settles O8: the sorting by `classify_of_enable`, the effect by what every accepted command ends with. -/
theorem enableWritesOverrides : Obligations.EnableWritesOverrides := by
  refine ⟨fun p q n hr hv h hen => ?_,
    fun f s => (exec_eq_after _ s).trans (congrArg Host.Outcome.next (acceptCommand_eq f _))⟩
  rw [← classify_of_enable h hen]
  exact classify_mem_operations hr hv

/-- Settles O10: the sorting by `classify_of_invalid`, the effect by what every accepted command ends with. -/
theorem invalidReleaseRaisesAndZeroes : Obligations.InvalidReleaseRaisesAndZeroes := by
  refine ⟨fun p q n hr hv h hen hz => ?_,
    fun f s => (exec_eq_after _ s).trans (congrArg Host.Outcome.next (acceptCommand_eq f _))⟩
  rw [← classify_of_invalid h hen hz]
  exact classify_mem_operations hr hv

/-- The end of a tick never clears the fault state: it writes `timeout` or nothing (rule R177). -/
theorem finishTick_fault_ne_noFault {s : State} (h : s.fault ≠ .noFault) : (finishTick s).fault ≠ .noFault := by
  rw [finishTick_eq]
  dsimp only
  split
  · exact nofun
  · exact h

/-- Only a release leads from another fault state to `no_fault`: every other operation keeps the fault state or
writes the code of a fault (rule R128). -/
theorem eq_rxRelease_of_after_fault {i : Instr} {s : State} (hs : s.fault ≠ .noFault)
    (ht : (after i s).fault = .noFault) : ∃ f, i = .rxRelease f := by
  cases i with
  | rxRelease f => exact ⟨f, rfl⟩
  | ctrl | rxOtherId | rxEscape | rxSeqGap | rxEnable | txDone | crc8 => exact absurd ht hs
  | reset | rxBadCrc | rxInvalid | busErr => exact nomatch ht
  | tickSend => exact absurd ht (finishTick_fault_ne_noFault hs)
  | tickOverrun => exact absurd ht (finishTick_fault_ne_noFault nofun)

/-- Settles O9: the sorting by `classify_of_release`, the effect by what every accepted command ends with, and no
other operation clears the fault state by `eq_rxRelease_of_after_fault`. -/
theorem releaseClearsFaultAndOverrides : Obligations.ReleaseClearsFaultAndOverrides := by
  refine ⟨fun p q n hr hv h hen hz => ?_,
    fun f s => (exec_eq_after _ s).trans (congrArg Host.Outcome.next (acceptCommand_eq f _)),
    fun i s t he hs ht => ?_⟩
  · rw [← classify_of_release h hen hz]
    exact classify_mem_operations hr hv
  · rw [exec_next_iff] at he
    exact eq_rxRelease_of_after_fault hs (he ▸ ht)

end Sys2Proof.Machine
end

section
/-! The obligation of 42_fault_state_machine.md: the only way back to `no_fault`. -/

namespace Sys2Proof.Machine

/-- Only an accepted command with the enable flag clear and both values zero passes all tests of rule R121 down to
the release: every other frame is sorted into another outcome. -/
theorem accepted_disable_of_classify_eq_rxRelease {p : Params} {q : Nibble} {f g : RxFrame}
    (h : classify p q f = .rxRelease g) :
    AcceptedFrame p q f ∧ f.data.b4.getLsbD 7 = false ∧ ZeroValues f.data := by
  by_cases hv : CommandFrame p f ∧ ChecksumValid f.data
  · obtain ⟨hc, hx⟩ := hv
    by_cases hq : SequenceCorrect q f.data
    · have ha : AcceptedFrame p q f := ⟨hc, hx, hq⟩
      cases hen : f.data.b4.getLsbD 7 with
      | true => exact nomatch (classify_of_enable ha hen).symm.trans h
      | false =>
        by_cases hz : ZeroValues f.data
        · exact ⟨ha, rfl, hz⟩
        · exact nomatch (classify_of_invalid ha hen hz).symm.trans h
    · exact nomatch (classify_of_sequenceGap hc hx hq).symm.trans h
  · obtain ho | ho | ho := classify_of_not_checksumValid hv q <;> exact nomatch ho.symm.trans h

/-- A release among a step's operations is the outcome of the presented frame: no other strobe selects one. -/
theorem classify_eq_rxRelease_of_mem_operations {p : Params} {q : Nibble} {n : Inputs} {f : RxFrame}
    (h : .rxRelease f ∈ operations p q n) :
    n.rst = false ∧ n.rxValid = true ∧ classify p q n.rx = .rxRelease f := by
  obtain ⟨-, hi⟩ | ⟨hr, ⟨-, hi⟩ | ⟨hv, hi⟩ | ⟨-, hi⟩ | ⟨-, hi⟩ | ⟨-, hi⟩⟩ := mem_operations h
  case inr.inr.inl => exact ⟨hr, hv, hi.symm⟩
  case inr.inr.inr.inl => cases he : n.txEmpty <;> exact nomatch he ▸ hi
  all_goals exact nomatch hi

/-- A step's events that lead from another fault state to `no_fault` hold a release: all other operations keep the
state out of `no_fault`, in whatever order they run. -/
theorem rxRelease_mem_operations_of_afterEvents_fault {n : Inputs} {s : State} (hs : s.fault ≠ .noFault)
    (ht : (afterEvents n s).fault = .noFault) : ∃ f, .rxRelease f ∈ operations s.params s.lastSeq n := by
  by_contra hno
  refine afterEvents_keeps (P := (·.fault ≠ .noFault)) hs (fun i hi u hu hclear => ?_) ht
  obtain ⟨f, rfl⟩ := eq_rxRelease_of_after_fault hu hclear
  exact hno ⟨f, hi⟩

/-- Settles O37: a step that clears the fault state runs a release, the receive strobe alone selects one, and the
frame is sorted into it only by the tests of rule R121. -/
theorem onlyReleaseReachesNoFault : Obligations.OnlyReleaseReachesNoFault := by
  intro s t hstep hs ht
  rw [step_next_iff] at hstep
  obtain ⟨f, hf⟩ := rxRelease_mem_operations_of_afterEvents_fault (s := beginStep s) hs (hstep ▸ ht)
  obtain ⟨hr, hv, hrel⟩ := classify_eq_rxRelease_of_mem_operations hf
  exact ⟨hr, hv, accepted_disable_of_classify_eq_rxRelease hrel⟩

end Sys2Proof.Machine
end

section
/-! The obligations of 43_arbiter_transmitter.md: the liveness indicator and the status frame. -/

namespace Sys2Proof.Machine

/-- The liveness indicator an operation leaves, from the one it finds: only the two tick forms and RESET write it
(rule R176, rule R230). -/
def ledAfter : Instr → Bool → Bool
  | .tickSend, b | .tickOverrun, b => !b
  | .reset, _ => false
  | _, b => b

/-- The liveness and the timeout part of a tick read `led` for its own inversion only (rule R176, rule R177). -/
theorem finishTick_setLed (s : State) (b : Bool) :
    finishTick { s with led := b } = { finishTick s with led := !b } := by
  simp only [finishTick_eq]

/-- A status frame does not carry the liveness indicator (rule R174). -/
theorem statusFrame_setLed (s : State) (b : Bool) : statusFrame { s with led := b } = statusFrame s := rfl

/-- An operation run with another liveness indicator leaves the same state but for it. -/
theorem after_setLed (i : Instr) (s : State) (b : Bool) :
    after i { s with led := b } = { after i s with led := ledAfter i b } := by
  cases i with
  | tickSend =>
    rw [after, statusFrame_setLed]
    exact finishTick_setLed (advanceTxIdx (sendFrame (statusFrame s) s)) b
  | tickOverrun => exact finishTick_setLed (raiseFault .sendFailure s) b
  | reset | ctrl | rxOtherId | rxEscape | rxBadCrc | rxSeqGap | rxEnable | rxRelease | rxInvalid | txDone | busErr
  | crc8 => rfl

theorem after_led (i : Instr) (s : State) : (after i s).led = ledAfter i s.led :=
  congrArg State.led (after_setLed i s s.led)

/-- Settles O43: both tick forms invert `led` by `after_led`, and no operation reads it for another field by
`after_setLed`. -/
theorem everyTickTogglesLiveness : Obligations.EveryTickTogglesLiveness := by
  refine ⟨fun s => ⟨?send, ?overrun⟩, fun i s t b h => ?otherLed⟩
  case send => exact ⟨_, exec_eq_after .tickSend s, after_led .tickSend s⟩
  case overrun => exact ⟨_, exec_eq_after .tickOverrun s, after_led .tickOverrun s⟩
  case otherLed =>
    rw [exec_next_iff] at h
    subst h
    exact ⟨ledAfter i b, exec_next_iff.mpr (after_setLed i s b)⟩

/-- The frame TICK_SEND hands over is the status frame of the state the tick finds (rule R173). -/
theorem after_tickSend_txData (s : State) : (after .tickSend s).pulses.txData = statusFrame s := by
  simp only [after, finishTick_eq, advanceTxIdx_pulses, sendFrame_pulses]

/-- A status frame carries neither the overrides nor the analog outputs (rule R174). -/
theorem statusFrame_setOverridesAndOutputs (s : State) (o0 o1 d0 d1 : Word16) :
    statusFrame { s with ovr0 := o0, ovr1 := o1, dac0 := d0, dac1 := d1 } = statusFrame s := rfl

/-- Settles O27: the frame handed over is the status frame of the state without the values put into it, whose bytes
are those of rule R174. -/
theorem statusFrameEchoesRawPosition : Obligations.StatusFrameEchoesRawPosition := by
  intro s o0 o1 d0 d1
  refine ⟨_, exec_eq_after .tickSend _, ?_⟩
  rw [after_tickSend_txData, statusFrame_setOverridesAndOutputs]
  exact ⟨rfl, rfl, rfl, rfl, rfl, rfl⟩

end Sys2Proof.Machine
end

section
/-! The invariants every step keeps: legal states, and analog outputs not below their readings. -/

namespace Sys2Proof.Machine

/-- No operation moves the timeout counter past the ceiling: it stays, restarts at zero, or advances with saturation
(rule R25, rule R177). -/
theorem after_toCnt_le {i : Instr} {s : State} (h : s.toCnt ≤ s.params.timeoutCeiling) :
    (after i s).toCnt ≤ s.params.timeoutCeiling := by
  cases i with
  | reset | rxEnable | rxRelease | rxInvalid => exact Nat.zero_le _
  | tickSend => exact (after_tick_toCnt true s).trans_le (Nat.min_le_right _ _)
  | tickOverrun => exact (after_tick_toCnt false s).trans_le (Nat.min_le_right _ _)
  | ctrl | rxOtherId | rxEscape | rxBadCrc | rxSeqGap | txDone | busErr | crc8 => exact h

theorem after_keeps_legalState {i : Instr} {s : State} (h : LegalState s) : LegalState (after i s) := by
  obtain ⟨hparams, hcnt⟩ := h
  refine ⟨?_, ?_⟩ <;> rw [after_params]
  · exact hparams
  · exact after_toCnt_le hcnt

/-- Settles O52: the start of a step leaves counter and parameters, and every operation keeps a legal state. -/
theorem stepKeepsLegalStates : Obligations.StepKeepsLegalStates := by
  intro s t hs hstep
  rw [← step_next_iff.mp hstep]
  exact afterEvents_keeps hs fun i _ u hu => after_keeps_legalState hu

/-- The end of a tick leaves readings and analog outputs alone. -/
theorem finishTick_outputCoversReading {s : State} (h : OutputCoversReading s) :
    OutputCoversReading (finishTick s) := by
  rw [finishTick_eq]
  exact h

/-- CTRL drives no channel below its reading, RESET zeroes both, and no other operation writes either (rule R170,
rule R230). -/
theorem after_keeps_outputCoversReading {i : Instr} {s : State} (h : OutputCoversReading s) :
    OutputCoversReading (after i s) := by
  cases i with
  | reset => exact ⟨BitVec.le_refl _, BitVec.le_refl _⟩
  | ctrl a0 a1 => exact ⟨le_arbitrate s.fault a0 s.ovr0, le_arbitrate s.fault a1 s.ovr1⟩
  | tickSend | tickOverrun => exact finishTick_outputCoversReading h
  | rxOtherId | rxEscape | rxBadCrc | rxSeqGap | rxEnable | rxRelease | rxInvalid | txDone | busErr | crc8 => exact h

/-- Settles O54: the start of a step leaves readings and analog outputs, and every operation keeps them covered. -/
theorem stepKeepsOutputCoveringReading : Obligations.StepKeepsOutputCoveringReading := by
  intro s t hs hstep
  rw [← step_next_iff.mp hstep]
  exact afterEvents_keeps hs fun i _ u hu => after_keeps_outputCoversReading hu

/-- Settles O51: the parameters of an implementation are legal by construction, and the counter starts at zero. -/
theorem resetStateIsLegal : Obligations.ResetStateIsLegal := ⟨Config.implementation.legal, Nat.zero_le _⟩

/-- Settles O53: readings and analog outputs are both zero after reset. -/
theorem resetOutputCoversReading : Obligations.ResetOutputCoversReading := ⟨BitVec.le_refl _, BitVec.le_refl _⟩

end Sys2Proof.Machine
end

section
/-! Overrides held in a fault state: no operation lets them through (42_fault_state_machine.md section 1). -/

namespace Sys2Proof

open Machine

theorem SameButStaleOverrides.refl (s : State) : SameButStaleOverrides s s := ⟨rfl, fun _ => ⟨rfl, rfl⟩⟩

/-- In `no_fault` related states are one state. -/
theorem SameButStaleOverrides.eq_of_noFault {s t : State} (h : SameButStaleOverrides s t) (hs : s.fault = .noFault) :
    t = s := by
  obtain ⟨heq, hovr⟩ := h
  obtain ⟨h0, h1⟩ := hovr hs
  rw [heq, h0, h1]

/-- Related states run the same operations: they agree in what a frame is sorted by. -/
theorem SameButStaleOverrides.operations_eq {s t : State} (h : SameButStaleOverrides s t) (n : Inputs) :
    operations t.params t.lastSeq n = operations s.params s.lastSeq n := by
  rw [h.1]

theorem SameButStaleOverrides.nextInputs_eq {s t : State} (h : SameButStaleOverrides s t) :
    nextInputs t = nextInputs s := by
  rw [h.1]
  rfl

/-- No output port shows an override register (rule R32). -/
theorem SameButStaleOverrides.outputs_eq {s t : State} (h : SameButStaleOverrides s t) : t.outputs = s.outputs := by
  rw [h.1]
  rfl

theorem SameButStaleOverrides.beginStep {s t : State} (h : SameButStaleOverrides s t) :
    SameButStaleOverrides (beginStep s) (beginStep t) := by
  obtain ⟨heq, hovr⟩ := h
  refine ⟨?_, hovr⟩
  rw [heq]
  rfl

/-- In a fault state the arbiter does not read the overrides, so every operation does the same but for them
(rule R170). -/
theorem after_setOverrides {i : Instr} {s : State} (hs : s.fault ≠ .noFault) (o0 o1 : Word16) :
    after i { s with ovr0 := o0, ovr1 := o1 } =
      { after i s with
        ovr0 := (after i { s with ovr0 := o0, ovr1 := o1 }).ovr0
        ovr1 := (after i { s with ovr0 := o0, ovr1 := o1 }).ovr1 } := by
  cases i with
  | ctrl a0 a1 => simp only [after, arbitrate_of_ne hs]
  | tickSend | tickOverrun => simp only [after, finishTick_eq]; rfl
  | reset | rxOtherId | rxEscape | rxBadCrc | rxSeqGap | rxEnable | rxRelease | rxInvalid | txDone | busErr
  | crc8 => rfl

/-- Every operation keeps related states related: the one that leads back to `no_fault`, the release, zeroes the
overrides (rule R128). -/
theorem SameButStaleOverrides.after {s t : State} (h : SameButStaleOverrides s t) (i : Instr) :
    SameButStaleOverrides (after i s) (after i t) := by
  by_cases hs : s.fault = .noFault
  · rw [h.eq_of_noFault hs]
    exact .refl _
  · refine ⟨?same, fun hclear => ?overrides⟩
    case same =>
      rw [h.1]
      exact after_setOverrides hs t.ovr0 t.ovr1
    case overrides =>
      obtain ⟨f, rfl⟩ := eq_rxRelease_of_after_fault hs hclear
      exact ⟨rfl, rfl⟩

/-- A step keeps related states related: both run the same operations in the same order. -/
theorem SameButStaleOverrides.afterEvents {s t : State} (h : SameButStaleOverrides s t) (n : Inputs) :
    SameButStaleOverrides (afterEvents n s) (afterEvents n t) := by
  rw [← foldl_operations, ← foldl_operations, h.operations_eq]
  exact List.foldl_rel h fun i _ u v huv => huv.after i

theorem SameButStaleOverrides.step {s t s' : State} (h : SameButStaleOverrides s t) (hs : step s = .next s') :
    ∃ t', step t = .next t' ∧ SameButStaleOverrides s' t' := by
  refine ⟨_, step_next_iff.mpr rfl, ?_⟩
  rw [← step_next_iff.mp hs, h.nextInputs_eq]
  exact h.beginStep.afterEvents _

/-- Settles O55, by induction on the number of steps: every step keeps the states related, and related states show
the same outputs. -/
theorem staleOverridesNeverReachAnOutput : Obligations.StaleOverridesNeverReachAnOutput := by
  intro k
  induction k with
  | zero =>
    rintro s t s' h ⟨⟩
    exact ⟨t, rfl, h, h.outputs_eq⟩
  | succ k ih =>
    intro s t s' h hrun
    obtain ⟨t1, ht1, h1⟩ := h.step (step_next_iff.mpr rfl)
    rw [core_run_succ (step_next_iff.mpr rfl)] at hrun
    rw [core_run_succ ht1]
    exact ih _ _ _ h1 hrun

end Sys2Proof
end

section
/-! The input record as bytes (30_encoding.md section 6). -/

namespace Sys2Proof

open Machine

/-- A strobe joined below a value is its bit 0; the value's bits stand one higher. -/
theorem getLsbD_joinStrobe (n : Nat) (x : BitVec n) (b : Bool) (i : Nat) :
    (x ++ BitVec.ofBool b).getLsbD i = if i = 0 then b else x.getLsbD (i - 1) := by
  rw [BitVec.getLsbD_append, BitVec.getLsbD_ofBool]
  simp only [Nat.lt_one_iff]
  split
  · next h => simp [h]
  · rfl

/-- The bits of the event vector (rule R77). -/
theorem eventVector_getLsbD (n : Inputs) (i : Nat) :
    (eventVector n).getLsbD i =
      if i = 0 then n.ctrl
      else if i - 1 = 0 then n.rxValid
      else if i - 1 - 1 = 0 then n.tick
      else if i - 1 - 1 - 1 = 0 then n.txDone
      else if i - 1 - 1 - 1 - 1 = 0 then n.busErr
      else if i - 1 - 1 - 1 - 1 - 1 = 0 then n.rst
      else (BitVec.ofBool n.txEmpty).getLsbD (i - 1 - 1 - 1 - 1 - 1 - 1) := by
  unfold eventVector
  rw [getLsbD_joinStrobe 6, getLsbD_joinStrobe 5, getLsbD_joinStrobe 4, getLsbD_joinStrobe 3, getLsbD_joinStrobe 2,
    getLsbD_joinStrobe 1]

/-- Settles O24: each bit is that of its strobe, by `eventVector_getLsbD`. -/
theorem eventVectorBits : Obligations.EventVectorBits := by
  intro n
  simp [eventVector_getLsbD, -BitVec.getLsbD_eq_getElem]

/-- The byte of the event vector has the vector's own bits below bit 7 and bit 7 clear. -/
theorem eventByte_getLsbD (n : Inputs) (i : Nat) :
    ((eventVector n).setWidth 8).getLsbD i = (eventVector n).getLsbD i := by
  rw [BitVec.getLsbD_setWidth]
  by_cases h : i < 8
  · simp [h]
  · simp [h, BitVec.getLsbD_of_ge _ i (by omega : 7 ≤ i)]

theorem eventVector_getLsbD_seven (n : Inputs) : (eventVector n).getLsbD 7 = false := BitVec.getLsbD_of_ge _ _ le_rfl

/-- A value put into a byte is read back from its low bits. -/
theorem extractLsb'_low_setWidth {w n : Nat} (h : w ≤ n) (x : BitVec w) : (x.setWidth n).extractLsb' 0 w = x := by
  rw [BitVec.extractLsb'_setWidth_of_le (by omega), BitVec.extractLsb'_eq_self]

/-- Above the value the byte is clear. -/
theorem extractLsb'_high_setWidth {w : Nat} (n k : Nat) (x : BitVec w) : (x.setWidth n).extractLsb' w k = 0#k := by
  ext i
  simp

theorem identifier_halves (x : CanId) : (x.extractLsb' 8 3 ++ x.extractLsb' 0 8 : CanId) = x := by
  rw [BitVec.extractLsb'_append_extractLsb'_eq_extractLsb' (by omega)]
  exact BitVec.extractLsb'_eq_self

/-- Settles O21: every field of the record is read back from its own bytes, and no unused bit is set. -/
theorem packedPortsUnpack : Obligations.PackedPortsUnpack := by
  intro n
  obtain ⟨h0, h1, h2, h3, h4, h5, h6⟩ := eventVectorBits n
  simp only [pack, unpack, eventByte_getLsbD, h0, h1, h2, h3, h4, h5, h6, eventVector_getLsbD_seven, be16_halves,
    extractLsb'_high_setWidth, extractLsb'_low_setWidth (by omega : 3 ≤ 8),
    extractLsb'_low_setWidth (by omega : 4 ≤ 8), identifier_halves]
  simp

end Sys2Proof
end

section
/-! The sorting of a frame as one statement, and the operation a record decodes to (rule R121, rule R77). -/

namespace Sys2Proof

open Machine

/-- The test of rule R121 that sorts the frame `f` into an outcome, the tests before it failing, in the terms of
Safety.lean. -/
def SortedInto (p : Params) (q : Nibble) (f : RxFrame) : Instr → Prop
  | .rxOtherId g => g = f ∧ f.id ≠ p.idIn
  | .rxEscape g => g = f ∧ f.id = p.idIn ∧ ¬ CommandFrame p f
  | .rxBadCrc g => g = f ∧ CommandFrame p f ∧ ¬ ChecksumValid f.data
  | .rxSeqGap g => g = f ∧ CommandFrame p f ∧ ChecksumValid f.data ∧ ¬ SequenceCorrect q f.data
  | .rxEnable g => g = f ∧ AcceptedFrame p q f ∧ f.data.b4.getLsbD 7 = true
  | .rxRelease g => g = f ∧ AcceptedFrame p q f ∧ f.data.b4.getLsbD 7 = false ∧ ZeroValues f.data
  | .rxInvalid g => g = f ∧ AcceptedFrame p q f ∧ f.data.b4.getLsbD 7 = false ∧ ¬ ZeroValues f.data
  | .reset | .ctrl _ _ | .tickSend | .tickOverrun | .txDone | .busErr | .crc8 _ => False

theorem classify_of_sortedInto {p : Params} {q : Nibble} {f : RxFrame} {i : Instr} (h : SortedInto p q f i) :
    classify p q f = i := by
  cases i with
  | rxOtherId g => obtain ⟨rfl, hid⟩ := h; exact classify_of_foreign hid q
  | rxEscape g => obtain ⟨rfl, hid, hc⟩ := h; exact classify_of_escape hid hc q
  | rxBadCrc g => obtain ⟨rfl, hc, hx⟩ := h; exact classify_of_badChecksum hc hx q
  | rxSeqGap g => obtain ⟨rfl, hc, hx, hq⟩ := h; exact classify_of_sequenceGap hc hx hq
  | rxEnable g => obtain ⟨rfl, ha, hen⟩ := h; exact classify_of_enable ha hen
  | rxRelease g => obtain ⟨rfl, ha, hen, hz⟩ := h; exact classify_of_release ha hen hz
  | rxInvalid g => obtain ⟨rfl, ha, hen, hz⟩ := h; exact classify_of_invalid ha hen hz
  | reset | ctrl | tickSend | tickOverrun | txDone | busErr | crc8 => exact h.elim

/-- The tests leave no gap: the first one that decides a frame sorts it. -/
theorem exists_sortedInto (p : Params) (q : Nibble) (f : RxFrame) : ∃ i, SortedInto p q f i := by
  by_cases hid : f.id = p.idIn
  case neg => exact ⟨.rxOtherId f, rfl, hid⟩
  by_cases hc : CommandFrame p f
  case neg => exact ⟨.rxEscape f, rfl, hid, hc⟩
  by_cases hx : ChecksumValid f.data
  case neg => exact ⟨.rxBadCrc f, rfl, hc, hx⟩
  by_cases hq : SequenceCorrect q f.data
  case neg => exact ⟨.rxSeqGap f, rfl, hc, hx, hq⟩
  cases hen : f.data.b4.getLsbD 7 with
  | true => exact ⟨.rxEnable f, rfl, ⟨hc, hx, hq⟩, hen⟩
  | false =>
    by_cases hz : ZeroValues f.data
    · exact ⟨.rxRelease f, rfl, ⟨hc, hx, hq⟩, hen, hz⟩
    · exact ⟨.rxInvalid f, rfl, ⟨hc, hx, hq⟩, hen, hz⟩

theorem classify_eq_iff {p : Params} {q : Nibble} {f : RxFrame} {i : Instr} :
    classify p q f = i ↔ SortedInto p q f i := by
  refine ⟨fun h => ?_, classify_of_sortedInto⟩
  obtain ⟨j, hj⟩ := exists_sortedInto p q f
  rwa [← h, classify_of_sortedInto hj]

theorem sortedInto_classify (p : Params) (q : Nibble) (f : RxFrame) : SortedInto p q f (classify p q f) :=
  classify_eq_iff.mp rfl

/-- Settles O23: `classify_eq_iff` for the seven outcomes. -/
theorem classificationTakesTheFirstTest : Obligations.ClassificationTakesTheFirstTest := by
  intro p q f
  simp only [classify_eq_iff, SortedInto, true_and, and_self]

/-- A lone receive selects the outcome its frame is sorted into. -/
theorem operations_receive (p : Params) (q : Nibble) (f : RxFrame) :
    operations p q { rxValid := true, rx := f } = [classify p q f] := rfl

/-- A frame that meets the table row of an outcome is sorted into it: the row names the tests of rule R121. -/
theorem classify_of_wellFormed {p : Params} {q : Nibble} {i : Instr} {f : RxFrame}
    (hp : portsOf i = some { rxValid := true, rx := f }) (hw : wellFormed p q i = true) : classify p q f = i := by
  cases i with
  | rxOtherId | rxEscape | rxBadCrc | rxSeqGap | rxEnable | rxRelease | rxInvalid =>
    cases hp
    simp only [wellFormed, isAccepted, isCommand, Bool.and_eq_true, Bool.not_eq_true'] at hw
    simp [classify, hw]
  | reset | ctrl | tickSend | tickOverrun | txDone | busErr | crc8 => exact nomatch hp

/-- The ports of a well-formed operation select it and no other (rule R77, rule R80). -/
theorem operations_portsOf {p : Params} {q : Nibble} {i : Instr} {n : Inputs} (hw : wellFormed p q i = true)
    (hn : portsOf i = some n) : operations p q n = [i] := by
  cases i with
  | reset | ctrl | tickSend | tickOverrun | txDone | busErr => cases hn; rfl
  | rxOtherId | rxEscape | rxBadCrc | rxSeqGap | rxEnable | rxRelease | rxInvalid =>
    cases hn
    rw [operations_receive, classify_of_wellFormed rfl hw]
  | crc8 => exact nomatch hn

/-- Bytes that unpack to a record selecting one operation decode to it. -/
theorem decode_eq_ok_iff {p : Params} {q : Nibble} {bytes : List Byte} {i : Instr} :
    decode p q bytes = .ok i ↔ ∃ n, unpack bytes = .ok n ∧ operations p q n = [i] := by
  unfold decode
  cases unpack bytes with
  | error e => simp
  | ok n => rcases hops : operations p q n with _ | ⟨j, _ | ⟨k, is⟩⟩ <;> simp [hops]

/-- Settles O22: the bytes unpack to the operation's ports, which select it alone; only CRC8 has no ports. -/
theorem decodeInvertsEncode : Obligations.DecodeInvertsEncode := by
  refine ⟨fun p q i bytes hw he => ?inverts, fun i => ?encoded⟩
  case inverts =>
    obtain ⟨n, hn, rfl⟩ := Option.map_eq_some_iff.mp he
    exact decode_eq_ok_iff.mpr ⟨n, packedPortsUnpack n, operations_portsOf hw hn⟩
  case encoded =>
    cases i with
    | crc8 b => exact .inr ⟨b, rfl⟩
    | reset | ctrl | rxOtherId | rxEscape | rxBadCrc | rxSeqGap | rxEnable | rxRelease | rxInvalid | tickSend
    | tickOverrun | txDone | busErr => exact .inl rfl

set_option maxRecDepth 2000 in
/-- Settles O20: ten closed words, each evaluated by the decoder. -/
theorem writtenOutWordsDecode : Obligations.WrittenOutWordsDecode :=
  ⟨rfl, rfl, rfl, rfl, rfl, rfl, rfl, rfl, rfl, rfl⟩

end Sys2Proof
end

section
/-! The fields of the words W and T (30_encoding.md sections 1 to 4). -/

namespace Sys2Proof.Machine

/-- Settles O25: each field of W is read off the bits of its bytes, by `frameWord_getLsbD`. -/
theorem commandFieldsStandInTheWord : Obligations.CommandFieldsStandInTheWord := by
  intro d
  refine ⟨?v0, ?v1, ?en, ?seq, ?crc, rfl, rfl, rfl, rfl, rfl⟩
  case en => simp [frameWord_getLsbD, enableFlag, memReadRx, -BitVec.getLsbD_eq_getElem]
  all_goals
    apply BitVec.eq_of_getLsbD_eq
    intro i hi
    rw [BitVec.getLsbD_extractLsb', frameWord_getLsbD]
  case v0 =>
    rw [value0, be16_getLsbD]
    grind [memReadRx]
  case v1 =>
    rw [value1, be16_getLsbD]
    grind [memReadRx]
  case seq =>
    rw [seqIndex, BitVec.getLsbD_extractLsb']
    grind [memReadRx]
  case crc =>
    rw [crcField]
    grind [memReadRx]

/-- The fields of the word T of any six bytes, each as the bytes that make it. -/
theorem statusWord_fields (t : TxData) :
    (statusWord t).extractLsb' 32 16 = be16 t.b0 t.b1 ∧ (statusWord t).extractLsb' 16 16 = be16 t.b2 t.b3 ∧
      (statusWord t).extractLsb' 0 8 = t.b5 := by
  refine ⟨?pos0, ?pos1, ?crc⟩
  all_goals
    apply BitVec.eq_of_getLsbD_eq
    intro i hi
    rw [BitVec.getLsbD_extractLsb', statusWord_getLsbD]
  case pos0 | pos1 =>
    rw [be16_getLsbD]
    grind
  case crc => grind

/-- The byte 4 of a frame in the word T: its high half T[15:12], its low half T[11:8]. -/
theorem statusWord_statusNibbles {t : TxData} {c x : Nibble} (h : t.b4 = c ++ x) :
    (statusWord t).extractLsb' 12 4 = c ∧ (statusWord t).extractLsb' 8 4 = x := by
  refine ⟨?code, ?index⟩
  all_goals
    apply BitVec.eq_of_getLsbD_eq
    intro i hi
    rw [BitVec.getLsbD_extractLsb', statusWord_getLsbD, h]
    simp only [nibbles_getLsbD]
    grind

theorem statusWord_getLsbD_fifteen (t : TxData) : (statusWord t).getLsbD 15 = t.b4.getLsbD 7 := by
  rw [statusWord_getLsbD]
  rfl

/-- Bit 7 of the status byte is clear: no fault code has its bit 3 set. -/
theorem statusByte_getLsbD_seven (c : FaultState) (x : Nibble) : (statusByte c x).getLsbD 7 = false := by
  rw [statusByte_eq, nibbles_getLsbD]
  cases c <;> rfl

/-- Settles O26: the frame handed over is the status frame of the state, whose bytes stand in T by
`statusWord_fields` and `statusWord_statusNibbles`. -/
theorem statusFieldsStandInTheWord : Obligations.StatusFieldsStandInTheWord := by
  refine ⟨⟨rfl, rfl, rfl, rfl, rfl, rfl, rfl⟩, fun s => ⟨rfl, _, exec_eq_after .tickSend s, ?_⟩⟩
  rw [after_tickSend_txData]
  obtain ⟨hpos0, hpos1, hcrc⟩ := statusWord_fields (statusFrame s)
  obtain ⟨hcode, hidx⟩ := statusWord_statusNibbles (t := statusFrame s) (statusByte_eq s.fault s.txIdx)
  exact ⟨hpos0.trans (be16_halves s.pos0), hpos1.trans (be16_halves s.pos1), hcode, hidx,
    (statusWord_getLsbD_fifteen _).trans (statusByte_getLsbD_seven s.fault s.txIdx), hcrc⟩

end Sys2Proof.Machine
end

section
/-! The checksum: its table, its linearity, and the errors it detects (40_checksum.md). -/

namespace Sys2Proof.Machine

set_option maxRecDepth 4000 in
/-- The table of rule R101 is the inner loop of rule R100, entry by entry. -/
theorem crcTable_eq_map : crcTable = (List.range 256).map fun k => crcByte (BitVec.ofNat 8 k) := by decide

theorem crcTable_getD (c : Byte) : crcTable.getD c.toNat 0 = crcByte c := by
  have hc : c.toNat < 256 := c.isLt
  simp [crcTable_eq_map, List.getD, hc]

/-- Settles O17, by induction on the string: one look-up is one inner loop. -/
theorem checksumTableAgrees : Obligations.ChecksumTableAgrees := by
  intro bs
  induction bs with
  | nil => rfl
  | cons x bs ih => rw [crc8ByTable, ih, crcTable_getD, crc8_cons]

/-- Settles O18, by induction on the two strings at once: the inner loop is linear. -/
theorem checksumIsAffine : Obligations.ChecksumIsAffine := by
  intro a b hlen
  induction a generalizing b with
  | nil =>
    obtain rfl : b = [] := List.length_eq_zero_iff.mp hlen.symm
    decide
  | cons x a ih =>
    obtain ⟨y, b, rfl⟩ := List.exists_cons_of_length_eq_add_one hlen.symm
    have ih := ih b (by simpa using hlen)
    simp only [List.zipWith_cons_cons, List.length_cons, List.replicate_succ, crc8_cons, ih, crcByte_xor, crcByte_zero]
    ac_rfl

/-- What an error pattern `e` in bytes 0 to 5 (bit 47 is bit 7 of byte 0) adds to the difference between the checksum
and byte 5. -/
def syndrome (e : BitVec 48) : Byte :=
  crc8 [e.extractLsb' 40 8, e.extractLsb' 32 8, e.extractLsb' 24 8, e.extractLsb' 16 8, e.extractLsb' 8 8] ^^^
    crc8 [0, 0, 0, 0, 0] ^^^ e.extractLsb' 0 8

/-- The checksum of five bytes with errors, by `checksumIsAffine`. -/
theorem crc8_xor_five (a0 a1 a2 a3 a4 b0 b1 b2 b3 b4 : Byte) :
    crc8 [a0 ^^^ b0, a1 ^^^ b1, a2 ^^^ b2, a3 ^^^ b3, a4 ^^^ b4] =
      crc8 [a0, a1, a2, a3, a4] ^^^ crc8 [b0, b1, b2, b3, b4] ^^^ crc8 [0, 0, 0, 0, 0] :=
  checksumIsAffine [a0, a1, a2, a3, a4] [b0, b1, b2, b3, b4] rfl

theorem syndrome_xor (a b : BitVec 48) : syndrome (a ^^^ b) = syndrome a ^^^ syndrome b := by
  have regroup : ∀ p q z x y : Byte, p ^^^ q ^^^ z ^^^ z ^^^ (x ^^^ y) = (p ^^^ z ^^^ x) ^^^ (q ^^^ z ^^^ y) := by
    intros
    ac_rfl
  simp only [syndrome, BitVec.extractLsb'_xor]
  rw [crc8_xor_five]
  exact regroup _ _ _ _ _

/-- An error in a checksum-valid field is detected exactly if its syndrome is not zero. -/
theorem checksumValid_xor_iff {d : RxData} (h : ChecksumValid d) (e : BitVec 48) :
    ChecksumValid
        { d with
          b0 := d.b0 ^^^ e.extractLsb' 40 8, b1 := d.b1 ^^^ e.extractLsb' 32 8, b2 := d.b2 ^^^ e.extractLsb' 24 8
          b3 := d.b3 ^^^ e.extractLsb' 16 8, b4 := d.b4 ^^^ e.extractLsb' 8 8, b5 := d.b5 ^^^ e.extractLsb' 0 8 } ↔
      syndrome e = 0 := by
  rw [ChecksumValid] at h
  rw [ChecksumValid, crc8_xor_five, h, BitVec.xor_assoc, BitVec.xor_right_inj, syndrome]
  exact BitVec.xor_eq_zero_iff.symm

/-- How many shift steps separate bit `i` of the six bytes from the low end of the register: byte 5 is the checksum
itself, byte 0 is the last one shifted in, byte 4 the first (rule R100). -/
def shiftDistance (i : Nat) : Nat := i % 8 + 8 * ((6 - i / 8) % 6)

theorem shiftDistance_lt (i : Nat) : shiftDistance i < 48 := by
  unfold shiftDistance
  omega

theorem shiftDistance_ne {i j : Nat} (hi : i < 48) (hj : j < 48) (hij : i ≠ j) :
    shiftDistance i ≠ shiftDistance j := by
  unfold shiftDistance
  omega

set_option maxRecDepth 4000 in
/-- One flipped bit has the syndrome of a 1 shifted by the bit's distance. -/
theorem syndrome_oneBit (i : Fin 48) : syndrome (1#48 <<< i.val) = crcShift^[shiftDistance i.val] 1 := by
  revert i
  decide

/-- The polynomial has its bit 0 set, so a shift step loses nothing. -/
theorem eq_zero_of_crcShift_eq_zero {c : Byte} (h : crcShift c = 0) : c = 0 := by
  revert c
  decide

theorem crcShift_injective : Function.Injective crcShift := by
  intro a b h
  rw [← BitVec.xor_eq_zero_iff] at h ⊢
  exact eq_zero_of_crcShift_eq_zero (crcShift_xor a b ▸ h)

theorem iterate_crcShift_one_ne_zero (i : Nat) : crcShift^[i] 1 ≠ 0 := by
  intro h
  have hzero : crcShift^[i] 0 = 0 := Function.iterate_fixed crcShift_zero i
  exact absurd (crcShift_injective.iterate i (h.trans hzero.symm)) (by decide)

/-- The shift register does not come back to 1 within 47 steps: the polynomial detects two errors up to that far
apart (rule R102). -/
theorem iterate_crcShift_one_ne_one (k : Fin 47) : crcShift^[k.val + 1] 1 ≠ 1 := by
  revert k
  decide

theorem iterate_crcShift_one_ne_of_lt {i j : Nat} (hij : i < j) (hj : j < 48) :
    crcShift^[i] 1 ≠ crcShift^[j] 1 := by
  intro h
  obtain ⟨k, rfl⟩ := Nat.exists_eq_add_of_lt hij
  rw [Nat.add_assoc, Function.iterate_add_apply] at h
  exact iterate_crcShift_one_ne_one ⟨k, by omega⟩ (crcShift_injective.iterate i h).symm

theorem iterate_crcShift_one_ne {i j : Nat} (hi : i < 48) (hj : j < 48) (hij : i ≠ j) :
    crcShift^[i] 1 ≠ crcShift^[j] 1 := by
  obtain h | h := Nat.lt_or_gt_of_ne hij
  · exact iterate_crcShift_one_ne_of_lt h hj
  · exact (iterate_crcShift_one_ne_of_lt h hi).symm

/-- Two different bits flipped: the two syndromes differ, so they do not cancel. -/
theorem syndrome_twoBits_ne_zero {i j : Fin 48} (hij : i ≠ j) :
    syndrome (1#48 <<< i.val) ^^^ syndrome (1#48 <<< j.val) ≠ 0 := by
  rw [syndrome_oneBit, syndrome_oneBit]
  exact BitVec.xor_eq_zero_iff.not.mpr <| iterate_crcShift_one_ne (shiftDistance_lt _) (shiftDistance_lt _)
    (shiftDistance_ne i.isLt j.isLt (Fin.val_ne_of_ne hij))

/-- Two different bits do not overlap. -/
theorem oneBit_or_eq_xor {i j : Nat} (hij : i ≠ j) : 1#48 <<< i ||| 1#48 <<< j = 1#48 <<< i ^^^ 1#48 <<< j := by
  apply BitVec.eq_of_getLsbD_eq
  intro k hk
  simp only [BitVec.getLsbD_or, BitVec.getLsbD_xor, BitVec.getLsbD_shiftLeft, BitVec.getLsbD_one]
  grind

/-- Settles O19: one flipped bit has the syndrome of a shifted 1, two have the XOR of two different ones. -/
theorem oneAndTwoBitErrorsAreDetected : Obligations.OneAndTwoBitErrorsAreDetected := by
  intro d i j hd
  dsimp only
  rw [checksumValid_xor_iff hd]
  by_cases hij : i = j
  · rw [hij, BitVec.or_self, syndrome_oneBit]
    exact iterate_crcShift_one_ne_zero _
  · rw [oneBit_or_eq_xor (Fin.val_ne_of_ne hij), syndrome_xor]
    exact syndrome_twoBits_ne_zero hij

end Sys2Proof.Machine
end

section
/-! Which strobe selects an operation (30_encoding.md section 6). -/

namespace Sys2Proof.Machine

/-- The six strobes of an input record (rule R77). -/
inductive Strobe where
  | rst
  | ctrl
  | rxValid
  | tick
  | txDone
  | busErr

/-- Whether a record sets the strobe. -/
def Strobe.isSet (n : Inputs) : Strobe → Bool
  | .rst => n.rst
  | .ctrl => n.ctrl
  | .rxValid => n.rxValid
  | .tick => n.tick
  | .txDone => n.txDone
  | .busErr => n.busErr

/-- The strobe that selects an operation; none selects CRC8. -/
def strobeOf : Instr → Option Strobe
  | .reset => some .rst
  | .ctrl _ _ => some .ctrl
  | .rxOtherId _ | .rxEscape _ | .rxBadCrc _ | .rxSeqGap _ | .rxEnable _ | .rxRelease _ | .rxInvalid _ => some .rxValid
  | .tickSend | .tickOverrun => some .tick
  | .txDone => some .txDone
  | .busErr => some .busErr
  | .crc8 _ => none

theorem strobeOf_classify (p : Params) (q : Nibble) (f : RxFrame) : strobeOf (classify p q f) = some .rxValid := by
  obtain ⟨i, hi⟩ := exists_sortedInto p q f
  rw [classify_of_sortedInto hi]
  cases i with
  | rxOtherId | rxEscape | rxBadCrc | rxSeqGap | rxEnable | rxRelease | rxInvalid => rfl
  | reset | ctrl | tickSend | tickOverrun | txDone | busErr | crc8 => exact hi.elim

theorem strobeOf_tickOperation (e : Bool) : strobeOf (tickOperation e) = some .tick := by
  cases e <;> rfl

/-- Every operation of a step is selected by a strobe that its inputs set. -/
theorem exists_strobe_of_mem_operations {p : Params} {q : Nibble} {n : Inputs} {i : Instr}
    (h : i ∈ operations p q n) : ∃ k, strobeOf i = some k ∧ k.isSet n = true := by
  obtain ⟨hrst, rfl⟩ | ⟨-, ⟨hctrl, rfl⟩ | ⟨hrx, rfl⟩ | ⟨htick, rfl⟩ | ⟨hdone, rfl⟩ | ⟨hbus, rfl⟩⟩ := mem_operations h
  · exact ⟨.rst, rfl, hrst⟩
  · exact ⟨.ctrl, rfl, hctrl⟩
  · exact ⟨.rxValid, strobeOf_classify p q n.rx, hrx⟩
  · exact ⟨.tick, strobeOf_tickOperation n.txEmpty, htick⟩
  · exact ⟨.txDone, rfl, hdone⟩
  · exact ⟨.busErr, rfl, hbus⟩

/-- An operation of a known strobe is among a step's only if that strobe is set. -/
theorem isSet_of_mem_operations {p : Params} {q : Nibble} {n : Inputs} {i : Instr} {k : Strobe}
    (h : i ∈ operations p q n) (hk : strobeOf i = some k) : k.isSet n = true := by
  obtain ⟨j, hj, hset⟩ := exists_strobe_of_mem_operations h
  obtain rfl : k = j := Option.some.inj (hk.symm.trans hj)
  exact hset

end Sys2Proof.Machine
end

section
/-! What each operation leaves (40_checksum.md, 41_command_validator.md section 2, 42_fault_state_machine.md,
43_arbiter_transmitter.md, 70_reset_and_hazards.md). -/

namespace Sys2Proof.Machine

/-- Settles O1: what RESET leaves, by `exec_eq_after`. -/
theorem resetOperationWritesEveryRegister : Obligations.ResetOperationWritesEveryRegister :=
  fun s => exec_eq_after .reset s

/-- Settles O2: every register of the reset state holds its reset value already, so RESET leaves it. -/
theorem resetStateHoldsResetValues : Obligations.ResetStateHoldsResetValues :=
  ⟨exec_eq_after .reset State.reset, rfl, rfl, rfl, rfl, rfl, rfl, Config.implementation.legal⟩

/-- Settles O13: TX_DONE leaves the state it finds, by `exec_eq_after`. -/
theorem transmitCompleteChangesNothing : Obligations.TransmitCompleteChangesNothing :=
  fun s => exec_eq_after .txDone s

/-- The arbiter leaves the reading unless the state is `no_fault` and the override above it (rule R170). -/
theorem arbitrate_eq (c : FaultState) (a o : Word16) :
    arbitrate c a o = if c = .noFault ∧ a.toNat < o.toNat then o else a := by
  by_cases hc : c = .noFault
  · subst hc
    rw [arbitrate_noFault, umax_eq]
    simp only [BitVec.le_def, true_and]
    split <;> split
    · rfl
    · exact BitVec.eq_of_toNat_eq (by omega)
    · omega
    · rfl
  · rw [arbitrate_of_ne hc, if_neg fun h => hc h.1]

/-- Settles O3: the control-loop iteration is listed first, and the arbiter drives each channel by
`arbitrate_eq`. -/
theorem controlLoopLatchesAndDrives : Obligations.ControlLoopLatchesAndDrives := by
  refine ⟨fun p q n hr hc => ?selected, fun a0 a1 s => ?effect⟩
  case selected => simp [operations, hr, hc]
  case effect => rw [exec_eq_after, after, arbitrate_eq, arbitrate_eq]

/-- Settles O4: the sorting by `classify_of_foreign`. -/
theorem foreignFrameIsOnlyAcknowledged : Obligations.ForeignFrameIsOnlyAcknowledged := by
  refine ⟨fun p q n hr hv hid => ?_, fun f s => exec_eq_after (.rxOtherId f) s⟩
  rw [← classify_of_foreign hid q]
  exact classify_mem_operations hr hv

/-- The reported index is the first one at which the list of patterns holds the frame (rule R124). -/
theorem escapeIndex_eq {p : Params} {d : RxData} {k : Nat} (hk : p.escapePatterns[k]? = some (frameWord d))
    (hleast : ∀ j < k, p.escapePatterns[j]? ≠ some (frameWord d)) : escapeIndex p d = k := by
  obtain ⟨hlt, heq⟩ := List.getElem?_eq_some_iff.mp hk
  refine (List.findIdx_eq hlt).mpr ⟨beq_iff_eq.mpr heq, fun j hj => beq_eq_false_iff_ne.mpr fun hfound => ?_⟩
  exact hleast j hj (List.getElem?_eq_some_iff.mpr ⟨hj.trans hlt, hfound⟩)

/-- Settles O5: the sorting by `classify_of_escape`, the index by `escapeIndex_eq`. -/
theorem escapeFrameRequestsLeastPattern : Obligations.EscapeFrameRequestsLeastPattern := by
  refine ⟨fun p q n hr hv hid hc => ?selected, fun f s k hk hleast => ?effect⟩
  case selected =>
    rw [← classify_of_escape hid hc q]
    exact classify_mem_operations hr hv
  case effect =>
    rw [exec_eq_after, after, escapeIndex_eq hk hleast]
    rfl

/-- Settles O7: the sorting by `classify_of_sequenceGap`. -/
theorem sequenceGapOnlyRecordsIndex : Obligations.SequenceGapOnlyRecordsIndex := by
  refine ⟨fun p q n hr hv hc hx hq => ?_, fun f s => exec_eq_after (.rxSeqGap f) s⟩
  rw [← classify_of_sequenceGap hc hx hq]
  exact classify_mem_operations hr hv

/-- Settles O11: the frame is that of the state the tick finds, with its status byte as two nibbles; then
`finishTick_eq`. -/
theorem tickSendHandsOverFrameAndAdvances : Obligations.TickSendHandsOverFrameAndAdvances := by
  intro s
  have hbyte := statusByte_eq s.fault s.txIdx
  rw [exec_eq_after, after, finishTick_eq]
  simp only [min_eq_right_iff, statusFrame, sealFrame, ← hbyte]
  rfl

/-- Settles O12: `send_failure`, then `finishTick_eq`. -/
theorem tickOverrunRaisesSendFailure : Obligations.TickOverrunRaisesSendFailure := by
  intro s
  rw [exec_eq_after, after, finishTick_eq]
  simp only [min_eq_right_iff]
  rfl

/-- Settles O14: the bus error is listed last. -/
theorem busErrorIsForcedLast : Obligations.BusErrorIsForcedLast := by
  refine ⟨fun p q n hr hb => ?_, fun s => exec_eq_after .busErr s⟩
  simp [operations, hr, hb]

/-- Settles O15: no strobe selects CRC8, and every operation of a step has one. -/
theorem checksumOperationReturnsItsResult : Obligations.ChecksumOperationReturnsItsResult := by
  refine ⟨fun b s => exec_eq_after (.crc8 b) s, fun p q n b hmem => ?_⟩
  obtain ⟨k, hk, -⟩ := exists_strobe_of_mem_operations hmem
  exact nomatch hk

/-- Settles O36, operation by operation: only a tick reads the counter it leaves. -/
theorem faultWritersWriteFixedCodes : Obligations.FaultWritersWriteFixedCodes := by
  intro i s
  refine ⟨_, exec_eq_after i s, ?_⟩
  cases i with
  | tickSend | tickOverrun => rw [after, finishTick_eq]; rfl
  | reset | ctrl | rxOtherId | rxEscape | rxBadCrc | rxSeqGap | rxEnable | rxRelease | rxInvalid | txDone | busErr
  | crc8 => rfl

end Sys2Proof.Machine
end

section
/-! A step as the sequence of its operations (60_exceptions.md section 3, 70_reset_and_hazards.md section 1). -/

namespace Sys2Proof.Machine

/-- Settles O31: a step answers what its events leave. -/
theorem everyStepAnswersNext : Obligations.EveryStepAnswersNext := fun _ => ⟨_, step_next_iff.mpr rfl⟩

/-- A step runs the operations its inputs select, one after another (rule R203). -/
theorem step_eq_runAll (s : State) :
    step s = runAll (operations s.params s.lastSeq (nextInputs s)) (beginStep s) := by
  rw [runAll_eq, step_next_iff]
  exact (foldl_operations (nextInputs s) (beginStep s)).symm

/-- Settles O30: the sequence by `step_eq_runAll`, the list by the strobes of receive and tick and their order. -/
theorem stepRunsItsOperationsInOrder : Obligations.StepRunsItsOperationsInOrder := by
  refine ⟨step_eq_runAll, fun p q n => ?_⟩
  unfold operations receiveAndTick tickOperation
  cases n.rxValid <;> cases n.tick <;> cases p.sameCycleOrder <;> simp

theorem runAll_singleton (i : Instr) (s : State) : runAll [i] s = exec i s := by
  rw [runAll_eq, exec_eq_after]
  rfl

/-- A step whose inputs select one operation is that operation. -/
theorem step_of_operations_eq_singleton {s : State} {i : Instr}
    (h : operations s.params s.lastSeq (nextInputs s) = [i]) : step s = exec i (beginStep s) := by
  rw [step_eq_runAll, h, runAll_singleton]

/-- Settles O28: the bytes denote the presented record, which selects the decoded operation alone. -/
theorem stepRunsTheDecodedOperation : Obligations.StepRunsTheDecodedOperation := by
  intro s n r bytes i hin hbytes hdec
  obtain ⟨m, hm, hops⟩ := decode_eq_ok_iff.mp hdec
  obtain rfl : m = n := Except.ok.inj (hm.symm.trans hbytes)
  rw [← nextInputs_cons m r s hin] at hops
  rw [step_of_operations_eq_singleton hops, beginStep, hin, List.tail_cons]

/-- A word that fits and unpacks presents the record of its bytes. -/
theorem portsOfWord_eq {nbits w : Nat} {n : Inputs} (hfit : w % 2 ^ nbits < 2 ^ 128)
    (hn : unpack (bytesOfWord nbits w) = .ok n) : portsOfWord nbits w = n := by
  rw [portsOfWord, wordFits, if_pos (decide_eq_true hfit), hn]

/-- Settles O29: the placed word presents the record its bytes denote. -/
theorem placedWordRunsNext : Obligations.PlacedWordRunsNext := by
  intro s nbits w i hfit hdec
  obtain ⟨n, hn, hops⟩ := decode_eq_ok_iff.mp hdec
  rw [State.withFetchWord, portsOfWord_eq hfit hn]
  exact step_of_operations_eq_singleton (s := presentNext n s) hops

/-- Settles O32: no strobe selects no operation. -/
theorem idleStepChangesNothing : Obligations.IdleStepChangesNothing := by
  intro s hrst hctrl hrx htick hdone hbus
  have hops : operations s.params s.lastSeq (nextInputs s) = [] := by
    simp [operations, receiveAndTick, hrst, hctrl, hrx, htick, hdone, hbus]
  rw [step_eq_runAll, hops]
  rfl

/-- Settles O33: a reset step runs RESET alone. -/
theorem resetOverridesEveryOtherEvent : Obligations.ResetOverridesEveryOtherEvent := by
  intro s hrst
  rw [step_of_operations_eq_singleton (if_pos hrst), exec_eq_after]
  rfl

/-- Outside reset the bus error comes after everything else (rule R202). -/
theorem afterEvents_of_busErr {n : Inputs} (hrst : n.rst = false) (hbus : n.busErr = true) (s : State) :
    afterEvents n s = raiseFault .busError (afterEvents { n with busErr := false } s) := by
  simp only [afterEvents, hrst, hbus]
  rfl

/-- Settles O34, by `afterEvents_of_busErr`. -/
theorem busErrorWinsItsStep : Obligations.BusErrorWinsItsStep := by
  intro s n r hin hrst hbus
  refine ⟨_, step_next_iff.mpr rfl, step_next_iff.mpr ?_⟩
  rw [nextInputs_cons n r s hin, afterEvents_of_busErr hrst hbus, beginStep, hin]
  rfl

theorem afterIf_txDone (b : Bool) (s : State) : afterIf b .txDone s = s := by
  cases b <;> rfl

/-- A step without reset and bus error ends as its receive and its tick leave it, after the control loop. -/
theorem afterEvents_of_no_rst_no_busErr {n : Inputs} (hrst : n.rst = false) (hbus : n.busErr = false) (s : State) :
    afterEvents n s = afterReceiveAndTick n (afterIf n.ctrl (.ctrl n.adc0 n.adc1) s) := by
  rw [afterEvents, hrst, hbus, afterIf_txDone]
  rfl

/-- Settles O35: the release zeroes the counter, the tick advances it to the ceiling of 1; the one that runs second
decides. -/
theorem sameCycleOrderDecidesReleaseAgainstTick : Obligations.SameCycleOrderDecidesReleaseAgainstTick := by
  intro s n r hin hceil hrst hbus hrx htick hacc hen hz
  refine ⟨_, step_next_iff.mpr rfl, ?_⟩
  rw [nextInputs_cons n r s hin, afterEvents_of_no_rst_no_busErr hrst hbus]
  simp only [afterReceiveAndTick, hrx, htick, afterIf_true, afterIf_params, afterIf_ctrl_lastSeq, beginStep_params,
    beginStep_lastSeq, classify_of_release hacc hen hz]
  refine ⟨fun horder => ?rxFirst, fun horder => ?tickFirst⟩ <;> rw [horder]
  case rxFirst =>
    dsimp only
    rw [after_tick_fault, after_tick_toCnt, after_params, afterIf_params, beginStep_params, hceil]
    exact ⟨if_pos (Nat.le_add_left _ _), Nat.min_eq_right (Nat.le_add_left _ _)⟩
  case tickFirst => exact ⟨rfl, rfl⟩

end Sys2Proof.Machine
end

section
/-! What a step leaves in a field that only one strobe's operations write. -/

namespace Sys2Proof.Machine

/-- Of all operations only those that the strobe `k` selects, and RESET, write the fields that `g` reads. -/
def WrittenOnlyBy {α : Type} (k : Strobe) (g : State → α) : Prop :=
  ∀ (i : Instr) (s : State), strobeOf i ≠ some .rst → strobeOf i ≠ some k → g (after i s) = g s

section
variable {α : Type} {k : Strobe} {g : State → α}

theorem WrittenOnlyBy.keeps_afterIf (h : WrittenOnlyBy k g) {i : Instr} (hrst : strobeOf i ≠ some .rst)
    (hk : strobeOf i ≠ some k) (b : Bool) (s : State) : g (afterIf b i s) = g s := by
  cases b with
  | true => exact h i s hrst hk
  | false => rfl

theorem WrittenOnlyBy.keeps_afterIf_classify (h : WrittenOnlyBy k g) (hk : k ≠ .rxValid) (b : Bool) (p : Params)
    (q : Nibble) (f : RxFrame) (s : State) : g (afterIf b (classify p q f) s) = g s := by
  refine h.keeps_afterIf ?_ ?_ b s <;> rw [strobeOf_classify]
  · exact nofun
  · exact fun heq => hk (Option.some.inj heq).symm

theorem WrittenOnlyBy.keeps_afterIf_tick (h : WrittenOnlyBy k g) (hk : k ≠ .tick) (b e : Bool) (s : State) :
    g (afterIf b (tickOperation e) s) = g s := by
  refine h.keeps_afterIf ?_ ?_ b s <;> rw [strobeOf_tickOperation]
  · exact nofun
  · exact fun heq => hk (Option.some.inj heq).symm

/-- What follows receive and tick in a step writes nothing that only another strobe writes. -/
theorem WrittenOnlyBy.eq_beforeTxDone (h : WrittenOnlyBy k g) (hk : k ≠ .busErr) {n : Inputs} (hrst : n.rst = false)
    (s : State) :
    g (afterEvents n s) = g (afterReceiveAndTick n (afterIf n.ctrl (.ctrl n.adc0 n.adc1) s)) := by
  simp only [afterEvents, hrst, Bool.false_eq_true, if_false]
  rw [h.keeps_afterIf (i := .busErr) nofun (fun heq => hk (Option.some.inj heq).symm), afterIf_txDone]

/-- A field that only the control loop writes ends as the control loop left it, first in the step. -/
theorem WrittenOnlyBy.afterEvents_of_ctrl (h : WrittenOnlyBy .ctrl g) {n : Inputs} (hrst : n.rst = false) (s : State) :
    g (afterEvents n s) = g (afterIf n.ctrl (.ctrl n.adc0 n.adc1) s) := by
  rw [h.eq_beforeTxDone nofun hrst, afterReceiveAndTick]
  cases (afterIf n.ctrl (.ctrl n.adc0 n.adc1) s).params.sameCycleOrder with
  | rxFirst => exact (h.keeps_afterIf_tick nofun _ _ _).trans (h.keeps_afterIf_classify nofun _ _ _ _ _)
  | tickFirst => exact (h.keeps_afterIf_classify nofun _ _ _ _ _).trans (h.keeps_afterIf_tick nofun _ _ _)

/-- A field that only a tick writes ends as the tick leaves it in some state `u` that has the field as it was. -/
theorem WrittenOnlyBy.afterEvents_of_tick (h : WrittenOnlyBy .tick g) {n : Inputs} (hrst : n.rst = false) (s : State) :
    ∃ u, g u = g s ∧ g (afterEvents n s) = g (afterIf n.tick (tickOperation n.txEmpty) u) := by
  have hctrl := h.keeps_afterIf (i := .ctrl n.adc0 n.adc1) nofun nofun n.ctrl s
  rw [h.eq_beforeTxDone nofun hrst, afterReceiveAndTick]
  cases (afterIf n.ctrl (.ctrl n.adc0 n.adc1) s).params.sameCycleOrder with
  | rxFirst => exact ⟨_, (h.keeps_afterIf_classify nofun _ _ _ _ _).trans hctrl, rfl⟩
  | tickFirst => exact ⟨_, hctrl, h.keeps_afterIf_classify nofun _ _ _ _ _⟩

/-- A field that only a receive writes ends as the receive leaves it in some state `u` that has the field as it
was. -/
theorem WrittenOnlyBy.afterEvents_of_rxValid (h : WrittenOnlyBy .rxValid g) {n : Inputs} (hrst : n.rst = false)
    (s : State) :
    ∃ u, g u = g s ∧
      g (afterEvents n s) = g (afterIf n.rxValid (classify s.params s.lastSeq n.rx) u) := by
  have hctrl := h.keeps_afterIf (i := .ctrl n.adc0 n.adc1) nofun nofun n.ctrl s
  rw [h.eq_beforeTxDone nofun hrst, afterReceiveAndTick, afterIf_params, afterIf_ctrl_lastSeq]
  cases s.params.sameCycleOrder with
  | rxFirst => exact ⟨_, hctrl, h.keeps_afterIf_tick nofun _ _ _⟩
  | tickFirst => exact ⟨_, (h.keeps_afterIf_tick nofun _ _ _).trans hctrl, rfl⟩

end

end Sys2Proof.Machine
end

section
/-! The control loop in a step (43_arbiter_transmitter.md section 1). -/

namespace Sys2Proof.Machine

/-- The readings, the analog outputs and the two pulses that go with them are the control loop's (rule R170,
rule R171). -/
theorem ctrl_writes_outputs :
    WrittenOnlyBy .ctrl fun s => (s.pos0, s.pos1, s.dac0, s.dac1, s.pulses.dacWe, s.pulses.wdtFeed) := by
  intro i s hrst hk
  cases i with
  | reset => exact absurd rfl hrst
  | ctrl => exact absurd rfl hk
  | tickSend | tickOverrun => simp [after, finishTick_eq]
  | rxOtherId | rxEscape | rxBadCrc | rxSeqGap | rxEnable | rxRelease | rxInvalid | txDone | busErr | crc8 => rfl

/-- A step with reset leaves every pulse output idle (rule R232). -/
theorem afterEvents_of_rst {n : Inputs} (hrst : n.rst = true) (s : State) :
    afterEvents n s = resetRegisters s := if_pos hrst

/-- Settles O44: the control loop alone feeds the watchdog, and a reset step runs none. -/
theorem watchdogIsFedExactlyByTheControlLoop : Obligations.WatchdogIsFedExactlyByTheControlLoop := by
  intro s t hstep
  rw [← step_next_iff.mp hstep]
  cases hrst : (nextInputs s).rst with
  | true =>
    rw [afterEvents_of_rst hrst, Bool.not_true, Bool.and_false]
    rfl
  | false =>
    have hfields := ctrl_writes_outputs.afterEvents_of_ctrl hrst (beginStep s)
    simp only [Prod.mk.injEq] at hfields
    obtain ⟨-, -, -, -, -, hfeed⟩ := hfields
    rw [Bool.not_false, Bool.and_true]
    refine hfeed.trans ?_
    cases (nextInputs s).ctrl <;> rfl

/-- The unsigned maximum as a number. -/
theorem umax_toNat (a b : Word16) : (umax a b).toNat = max a.toNat b.toNat := by
  rw [umax_eq]
  split
  · next h => exact (Nat.max_eq_right (BitVec.le_def.mp h)).symm
  · next h => exact (Nat.max_eq_left (Nat.le_of_not_le (BitVec.le_def.not.mp h))).symm

/-- Settles O46: outside reset the control loop alone writes these fields, first in its step, by rule R170. -/
theorem analogOutputChangesOnlyAtTheControlLoop : Obligations.AnalogOutputChangesOnlyAtTheControlLoop := by
  intro s t hstep hrst
  rw [← step_next_iff.mp hstep]
  have hfields := ctrl_writes_outputs.afterEvents_of_ctrl hrst (beginStep s)
  simp only [Prod.mk.injEq] at hfields
  obtain ⟨hpos0, hpos1, hdac0, hdac1, hwe, -⟩ := hfields
  refine ⟨fun hctrl => ?without, fun hctrl => ?withCtrl⟩ <;> simp only [hctrl] at hpos0 hpos1 hdac0 hdac1 hwe
  case without => exact ⟨hdac0, hdac1, hpos0, hpos1, hwe⟩
  case withCtrl =>
    refine ⟨hpos0, hpos1, hwe, fun hf => ?fault, fun hf => ?noFault⟩ <;> rw [hdac0, hdac1]
    case fault => exact ⟨arbitrate_of_ne hf _ _, arbitrate_of_ne hf _ _⟩
    case noFault =>
      simp only [afterIf_true, after, beginStep_fault, hf, arbitrate_noFault, umax_toNat]
      exact ⟨rfl, rfl⟩

end Sys2Proof.Machine
end

section
/-! The transmitter and the acknowledgement in a step (43_arbiter_transmitter.md section 2, 41_command_validator.md
section 1). -/

namespace Sys2Proof.Machine

/-- The transmit index, TX and its pulse are the tick's (rule R173). -/
theorem tick_writes_transmitter :
    WrittenOnlyBy .tick fun s => (s.txIdx, s.pulses.txValid, s.pulses.txData) := by
  intro i s hrst hk
  cases i with
  | reset => exact absurd rfl hrst
  | tickSend | tickOverrun => exact absurd rfl hk
  | ctrl | rxOtherId | rxEscape | rxBadCrc | rxSeqGap | rxEnable | rxRelease | rxInvalid | txDone | busErr
  | crc8 => rfl

/-- What a tick that finds the transmitter empty leaves in the transmitter's fields. -/
theorem after_tickSend_transmitter (s : State) :
    (after .tickSend s).txIdx = s.txIdx + 1 ∧ (after .tickSend s).pulses.txValid = true ∧
      (after .tickSend s).pulses.txData = statusFrame s := by
  simp [after, finishTick_eq]

/-- A tick that finds it busy leaves them alone (rule R175). -/
theorem after_tickOverrun_transmitter (s : State) :
    (after .tickOverrun s).txIdx = s.txIdx ∧ (after .tickOverrun s).pulses = s.pulses := by
  simp [after, finishTick_eq]

/-- What a step outside reset leaves in the transmitter: a frame whose status byte carries the index from before if a
tick finds it empty, and nothing new otherwise. -/
theorem afterEvents_transmitter {n : Inputs} (hrst : n.rst = false) (s : State) :
    (n.tick = true ∧ n.txEmpty = true ∧ (afterEvents n s).txIdx = s.txIdx + 1 ∧
        (afterEvents n s).pulses.txValid = true ∧
        ∃ c, (afterEvents n s).pulses.txData.b4 = statusByte c s.txIdx) ∨
      ((n.tick && n.txEmpty) = false ∧ (afterEvents n s).txIdx = s.txIdx ∧
        (afterEvents n s).pulses.txValid = s.pulses.txValid ∧
        (afterEvents n s).pulses.txData = s.pulses.txData) := by
  obtain ⟨u, hu, hfields⟩ := tick_writes_transmitter.afterEvents_of_tick hrst s
  simp only [Prod.mk.injEq] at hu hfields
  obtain ⟨huIdx, huValid, huData⟩ := hu
  obtain ⟨hIdx, hValid, hData⟩ := hfields
  rw [hIdx, hValid, hData, ← huIdx, ← huValid, ← huData]
  cases n.tick with
  | false => exact .inr ⟨rfl, rfl, rfl, rfl⟩
  | true =>
    cases n.txEmpty with
    | true =>
      obtain ⟨h1, h2, h3⟩ := after_tickSend_transmitter u
      exact .inl ⟨rfl, rfl, h1, h2, u.fault, congrArg TxData.b4 h3⟩
    | false =>
      obtain ⟨h1, h2⟩ := after_tickOverrun_transmitter u
      exact .inr ⟨rfl, h1, congrArg Pulses.txValid h2, congrArg Pulses.txData h2⟩

/-- The low half of the status byte is the transmit index (rule R75). -/
theorem statusByte_low (c : FaultState) (x : Nibble) : (statusByte c x).extractLsb' 0 4 = x := by
  rw [statusByte_eq]
  exact BitVec.extractLsb'_append_eq_right

/-- Settles O41, by the two cases of `afterEvents_transmitter`. -/
theorem transmitIndexCountsFrames : Obligations.TransmitIndexCountsFrames := by
  intro s t hstep hrst
  rw [← step_next_iff.mp hstep]
  obtain ⟨htick, hempty, hIdx, hValid, c, hb4⟩ | ⟨hno, hIdx, hValid, -⟩ :=
    afterEvents_transmitter hrst (beginStep s)
  · refine ⟨fun _ => ⟨?_, ?_⟩, fun h => absurd (hValid.symm.trans h) nofun,
      fun _ h => absurd (hempty.symm.trans h) nofun⟩
    · rw [hIdx, beginStep_txIdx, BitVec.toNat_add]
      rfl
    · rw [hb4, statusByte_low, beginStep_txIdx]
  · exact ⟨fun h => absurd (hValid.symm.trans h) nofun, fun _ => hIdx, fun _ _ => hIdx⟩

theorem afterEvents_params (n : Inputs) (s : State) : (afterEvents n s).params = s.params :=
  afterEvents_keeps (P := fun u => u.params = s.params) rfl fun i _ u hu => (after_params i u).trans hu

/-- Settles O48, by `after_params`. -/
theorem parametersNeverChange : Obligations.ParametersNeverChange := by
  intro s t hstep
  rw [← step_next_iff.mp hstep, afterEvents_params, beginStep_params]

/-- Settles O42: a reset step leaves the pulses idle, every other step by the two cases of
`afterEvents_transmitter`. -/
theorem frameIsSentExactlyByAnIdleTransmitterTick : Obligations.FrameIsSentExactlyByAnIdleTransmitterTick := by
  intro s t hstep
  have hid : t.outputs.txId = s.params.idOut := congrArg Params.idOut (parametersNeverChange s t hstep)
  rw [← step_next_iff.mp hstep] at hid ⊢
  cases hrst : (nextInputs s).rst with
  | true =>
    rw [Bool.not_true, Bool.and_false]
    rw [afterEvents_of_rst hrst] at hid ⊢
    exact ⟨rfl, hid, rfl, fun _ => rfl⟩
  | false =>
    rw [Bool.not_false, Bool.and_true]
    obtain ⟨htick, hempty, -, hValid, -⟩ | ⟨hno, -, hValid, hData⟩ := afterEvents_transmitter hrst (beginStep s)
    · rw [htick, hempty]
      exact ⟨hValid, hid, rfl, fun h => absurd (hValid.symm.trans h) nofun⟩
    · exact ⟨hValid.trans hno.symm, hid, rfl, fun _ => hData⟩

/-- The acknowledgement is the receive's (rule R120). -/
theorem rxValid_writes_rxAck : WrittenOnlyBy .rxValid fun s => s.pulses.rxAck := by
  intro i s hrst hk
  cases i with
  | reset => exact absurd rfl hrst
  | rxOtherId | rxEscape | rxBadCrc | rxSeqGap | rxEnable | rxRelease | rxInvalid => exact absurd rfl hk
  | tickSend | tickOverrun => simp [after, finishTick_eq]
  | ctrl | txDone | busErr | crc8 => rfl

/-- Every outcome of a received frame acknowledges it (rule R120). -/
theorem after_rxAck_of_strobeOf {i : Instr} (h : strobeOf i = some .rxValid) (s : State) :
    (after i s).pulses.rxAck = true := by
  cases i with
  | rxOtherId | rxEscape | rxBadCrc | rxSeqGap | rxEnable | rxRelease | rxInvalid => rfl
  | reset | ctrl | tickSend | tickOverrun | txDone | busErr | crc8 => exact nomatch h

/-- Settles O45: a receive alone acknowledges, whatever its outcome, and a reset step runs none. -/
theorem everyFrameIsAcknowledged : Obligations.EveryFrameIsAcknowledged := by
  intro s t hstep
  rw [← step_next_iff.mp hstep]
  cases hrst : (nextInputs s).rst with
  | true =>
    rw [afterEvents_of_rst hrst, Bool.not_true, Bool.and_false]
    rfl
  | false =>
    obtain ⟨u, hu, hack⟩ := rxValid_writes_rxAck.afterEvents_of_rxValid hrst (beginStep s)
    rw [Bool.not_false, Bool.and_true]
    refine hack.trans ?_
    cases (nextInputs s).rxValid with
    | true => exact after_rxAck_of_strobeOf (strobeOf_classify _ _ _) u
    | false => exact hu

end Sys2Proof.Machine
end

section
/-! What leads into `startup`, what changes an override, and what a receive does not read
(42_fault_state_machine.md section 3, 41_command_validator.md section 3, 30_encoding.md section 5). -/

namespace Sys2Proof.Machine

/-- Only RESET enters `startup`: every other operation keeps the fault state or writes another code. -/
theorem after_fault_ne_startup {i : Instr} {s : State} (hi : i ≠ .reset) (hs : s.fault ≠ .startup) :
    (after i s).fault ≠ .startup := by
  cases i with
  | reset => exact absurd rfl hi
  | rxBadCrc | rxRelease | rxInvalid | busErr => exact nofun
  | ctrl | rxOtherId | rxEscape | rxSeqGap | rxEnable | txDone | crc8 => exact hs
  | tickSend =>
    refine (after_tick_fault true s).trans_ne ?_
    split
    · exact nofun
    · exact hs
  | tickOverrun =>
    refine (after_tick_fault false s).trans_ne ?_
    split <;> exact nofun

/-- Settles O38: without reset every operation of the step keeps the state out of `startup`. -/
theorem startupIsEnteredOnlyByReset : Obligations.StartupIsEnteredOnlyByReset := by
  intro s t hstep ht
  by_contra hno
  obtain ⟨hs, hrst⟩ := not_or.mp hno
  rw [← step_next_iff.mp hstep] at ht
  refine afterEvents_keeps (s := beginStep s) (P := (·.fault ≠ .startup)) hs (fun i hi u hu => ?_) ht
  exact after_fault_ne_startup (fun hreset => hrst (isSet_of_mem_operations (k := .rst) hi (hreset ▸ rfl))) hu

/-- The overrides are the receive's (rule R22). -/
theorem rxValid_writes_overrides : WrittenOnlyBy .rxValid fun s => (s.ovr0, s.ovr1) := by
  intro i s hrst hk
  cases i with
  | reset => exact absurd rfl hrst
  | rxOtherId | rxEscape | rxBadCrc | rxSeqGap | rxEnable | rxRelease | rxInvalid => exact absurd rfl hk
  | tickSend | tickOverrun => simp [after, finishTick_eq]
  | ctrl | txDone | busErr | crc8 => rfl

/-- A frame that is no accepted command leaves the overrides alone, whichever outcome it has. -/
theorem after_overrides_of_not_accepted {p : Params} {q : Nibble} {f : RxFrame} (h : ¬ AcceptedFrame p q f)
    (s : State) : (after (classify p q f) s).ovr0 = s.ovr0 ∧ (after (classify p q f) s).ovr1 = s.ovr1 := by
  obtain ⟨i, hi⟩ := exists_sortedInto p q f
  rw [classify_of_sortedInto hi]
  cases i with
  | rxOtherId | rxEscape | rxBadCrc | rxSeqGap => exact ⟨rfl, rfl⟩
  | rxEnable | rxRelease | rxInvalid => exact absurd hi.2.1 h
  | reset | ctrl | tickSend | tickOverrun | txDone | busErr | crc8 => exact hi.elim

theorem afterIf_overrides_of_not_accepted {b : Bool} {p : Params} {q : Nibble} {f : RxFrame}
    (h : ¬ (b = true ∧ AcceptedFrame p q f)) (s : State) :
    (afterIf b (classify p q f) s).ovr0 = s.ovr0 ∧ (afterIf b (classify p q f) s).ovr1 = s.ovr1 := by
  cases b with
  | true => exact after_overrides_of_not_accepted (fun ha => h ⟨rfl, ha⟩) s
  | false => exact ⟨rfl, rfl⟩

/-- Settles O40: outside reset only the receive writes the overrides, and only for an accepted command. -/
theorem overridesChangeOnlyByAcceptedCommands : Obligations.OverridesChangeOnlyByAcceptedCommands := by
  intro s t hstep
  rw [← step_next_iff.mp hstep]
  cases hrst : (nextInputs s).rst with
  | true => exact .inl rfl
  | false =>
    by_cases hacc : (nextInputs s).rxValid = true ∧ AcceptedFrame s.params s.lastSeq (nextInputs s).rx
    · exact .inr (.inl hacc)
    · obtain ⟨u, hu, hfields⟩ := rxValid_writes_overrides.afterEvents_of_rxValid hrst (beginStep s)
      simp only [Prod.mk.injEq] at hu hfields
      obtain ⟨hkeep0, hkeep1⟩ := afterIf_overrides_of_not_accepted hacc u
      exact .inr (.inr ⟨(hfields.1.trans hkeep0).trans hu.1, (hfields.2.trans hkeep1).trans hu.2⟩)

/-- Two commands with the same values, flag and index, both or neither checksum-valid, have outcomes that leave the
same state: no outcome of a command reads more of its frame (rule R122). -/
theorem after_classify_congr {p : Params} {q : Nibble} {f g : RxFrame} (hf : CommandFrame p f) (hg : CommandFrame p g)
    (hv0 : value0 g.data = value0 f.data) (hv1 : value1 g.data = value1 f.data)
    (hen : enableFlag g.data = enableFlag f.data) (hseq : seqIndex g.data = seqIndex f.data)
    (hcrc : ChecksumValid g.data ↔ ChecksumValid f.data) (s : State) :
    after (classify p q g) s = after (classify p q f) s := by
  have hnext : SequenceCorrect q g.data ↔ SequenceCorrect q f.data := by
    rw [sequenceCorrect_iff, sequenceCorrect_iff, isNext, isNext, hseq]
  by_cases hx : ChecksumValid f.data
  · by_cases hq : SequenceCorrect q f.data
    · have hz : valuesZero g.data = valuesZero f.data := by rw [valuesZero, valuesZero, hv0, hv1]
      rw [classify_of_accepted ⟨hf, hx, hq⟩, classify_of_accepted ⟨hg, hcrc.mpr hx, hnext.mpr hq⟩, hen, hz]
      cases enableFlag f.data <;> cases valuesZero f.data <;> simp [after, acceptCommand_eq, hv0, hv1, hseq]
    · rw [classify_of_sequenceGap hf hx hq, classify_of_sequenceGap hg (hcrc.mpr hx) (hnext.not.mpr hq), after, hseq]
      rfl
  · rw [classify_of_badChecksum hf hx, classify_of_badChecksum hg (hcrc.not.mpr hx)]
    rfl

/-- A step reads a frame only through what its outcome leaves. -/
theorem afterEvents_setRx {n : Inputs} {g : RxFrame} {s : State}
    (h : ∀ u, after (classify s.params s.lastSeq g) u = after (classify s.params s.lastSeq n.rx) u) :
    afterEvents { n with rx := g } s = afterEvents n s := by
  simp only [afterEvents, afterReceiveAndTick, afterIf_params, afterIf_ctrl_lastSeq]
  simp only [afterIf, h]

theorem step_eq_afterEvents (s : State) : step s = .next (afterEvents (nextInputs s) (beginStep s)) :=
  step_next_iff.mpr rfl

/-- Settles O47: the fields that rule R122 names agree, so the outcomes leave the same states. -/
theorem ignoredFieldsMakeNoDifference : Obligations.IgnoredFieldsMakeNoDifference := by
  intro s n g r hf hg h0 h1 h2 h3 hen hseq hcrc
  have hv0 : value0 g.data = value0 n.rx.data := congrArg₂ be16 h0 h1
  have hv1 : value1 g.data = value1 n.rx.data := congrArg₂ be16 h2 h3
  rw [step_eq_afterEvents, step_eq_afterEvents]
  exact congrArg Host.Outcome.next <|
    afterEvents_setRx (n := n) (s := beginStep { s with inputs := n :: r })
      (after_classify_congr hf hg hv0 hv1 hen hseq hcrc)

end Sys2Proof.Machine
end

section
/-! The last-seen index in a step without a frame (10_state.md section 5). -/

namespace Sys2Proof.Machine

/-- Without a frame the index selects nothing. -/
theorem operations_of_no_frame {n : Inputs} (h : n.rxValid = false) (p : Params) (q q' : Nibble) :
    operations p q' n = operations p q n := by
  rw [operations, operations, receiveAndTick, receiveAndTick, h]
  cases n.tick <;> rfl

/-- Two states that agree in everything but the last-seen index. -/
def SameButLastSeq (s t : State) : Prop := t = { s with lastSeq := t.lastSeq }

/-- No output port shows the last-seen index (rule R32). -/
theorem SameButLastSeq.outputs_eq {s t : State} (h : SameButLastSeq s t) : t.outputs = s.outputs := by
  rw [h]
  rfl

/-- No operation but a receive reads the last-seen index. -/
theorem SameButLastSeq.after {s t : State} (h : SameButLastSeq s t) {i : Instr} (hi : strobeOf i ≠ some .rxValid) :
    SameButLastSeq (after i s) (after i t) := by
  rw [h]
  cases i with
  | tickSend | tickOverrun => simp only [Machine.after, finishTick_eq]; rfl
  | reset | ctrl | txDone | busErr | crc8 => rfl
  | rxOtherId | rxEscape | rxBadCrc | rxSeqGap | rxEnable | rxRelease | rxInvalid => exact absurd rfl hi

/-- A step without a frame does not read it either: it runs the same operations in both states. -/
theorem SameButLastSeq.afterEvents {s t : State} (h : SameButLastSeq s t) {n : Inputs} (hn : n.rxValid = false) :
    SameButLastSeq (afterEvents n s) (afterEvents n t) := by
  have hops : operations t.params t.lastSeq n = operations s.params s.lastSeq n := by
    rw [h]
    exact operations_of_no_frame hn s.params s.lastSeq t.lastSeq
  rw [← foldl_operations, ← foldl_operations, hops]
  refine List.foldl_rel h fun i hi u v huv => huv.after fun hrx => ?_
  exact absurd (isSet_of_mem_operations hi hrx) (Bool.eq_false_iff.mp hn)

/-- Settles O49: the two steps leave states that differ in the last-seen index alone. -/
theorem lastSeenIndexIsHidden : Obligations.LastSeenIndexIsHidden := by
  intro s q hn
  have hstart : SameButLastSeq (beginStep s) (beginStep { s with lastSeq := q }) := rfl
  exact ⟨_, _, step_eq_afterEvents s, step_eq_afterEvents _, (hstart.afterEvents hn).outputs_eq⟩

end Sys2Proof.Machine
end

section
/-! Runs of ticks without frames, resets and bus errors (43_arbiter_transmitter.md section 2). -/

namespace Sys2Proof.Machine

/-- Inputs with no reset, no frame and no bus error. -/
def Quiet (n : Inputs) : Prop := n.rst = false ∧ n.rxValid = false ∧ n.busErr = false

/-- A step on such inputs is the control loop and the tick, each if its strobe is set. -/
theorem afterEvents_of_quiet {n : Inputs} (h : Quiet n) (s : State) :
    afterEvents n s =
      afterIf n.tick (tickOperation n.txEmpty) (afterIf n.ctrl (.ctrl n.adc0 n.adc1) s) := by
  obtain ⟨hrst, hrx, hbus⟩ := h
  rw [afterEvents_of_no_rst_no_busErr hrst hbus, afterReceiveAndTick, hrx]
  cases (afterIf n.ctrl (.ctrl n.adc0 n.adc1) s).params.sameCycleOrder <;> rfl

theorem afterIf_ctrl_toCnt_fault (b : Bool) (a0 a1 : Word16) (s : State) :
    (afterIf b (.ctrl a0 a1) s).toCnt = s.toCnt ∧ (afterIf b (.ctrl a0 a1) s).fault = s.fault := by
  cases b <;> exact ⟨rfl, rfl⟩

/-- The counter after a quiet step: a tick advances it, with saturation. -/
theorem quiet_toCnt {n : Inputs} (h : Quiet n) (s : State) :
    (afterEvents n s).toCnt = if n.tick then min (s.toCnt + 1) s.params.timeoutCeiling else s.toCnt := by
  obtain ⟨hcnt, -⟩ := afterIf_ctrl_toCnt_fault n.ctrl n.adc0 n.adc1 s
  rw [afterEvents_of_quiet h]
  cases n.tick with
  | true => rw [afterIf_true, after_tick_toCnt, afterIf_params, hcnt]; rfl
  | false => exact hcnt

/-- The fault state after a quiet step is what its tick leaves. -/
theorem quiet_fault {n : Inputs} (h : Quiet n) (s : State) :
    (afterEvents n s).fault =
      if n.tick then
        if s.params.timeoutCeiling ≤ s.toCnt + 1 then .timeout else if n.txEmpty then s.fault else .sendFailure
      else s.fault := by
  obtain ⟨hcnt, hfault⟩ := afterIf_ctrl_toCnt_fault n.ctrl n.adc0 n.adc1 s
  rw [afterEvents_of_quiet h]
  cases n.tick with
  | true => rw [afterIf_true, after_tick_fault, afterIf_params, hcnt, hfault]; rfl
  | false => exact hfault

/-- What a run of the core leaves on the records it is presented. -/
def afterRun : List Inputs → State → State
  | [], s => s
  | n :: ns, s => afterRun ns (afterEvents n (beginStep s))

theorem afterEvents_inputs (n : Inputs) (s : State) : (afterEvents n s).inputs = s.inputs :=
  afterEvents_keeps (P := fun u => u.inputs = s.inputs) rfl fun i _ u hu => (after_inputs i u).trans hu

theorem core_run_eq_afterRun {ns : List Inputs} {s : State} (h : s.inputs = ns) :
    Sys2Proof.core.run ns.length s = .next (afterRun ns s) := by
  induction ns generalizing s with
  | nil => rfl
  | cons n ns ih =>
    have hrest : (afterEvents n (beginStep s)).inputs = ns := by
      rw [afterEvents_inputs, beginStep_inputs, h, List.tail_cons]
    rw [List.length_cons, core_run_succ (step_eq_afterEvents s), nextInputs_cons n ns s h]
    exact ih hrest

theorem tickCount_cons (n : Inputs) (ns : List Inputs) :
    tickCount (n :: ns) = (if n.tick then 1 else 0) + tickCount ns := by
  unfold tickCount
  cases h : n.tick <;> simp [h, Nat.add_comm]

section
variable {ns : List Inputs} {s : State}

/-- The counter counts the ticks, saturated at the ceiling. -/
theorem afterRun_toCnt (hq : ∀ n ∈ ns, Quiet n) (hs : s.toCnt ≤ s.params.timeoutCeiling) :
    (afterRun ns s).toCnt = min (s.toCnt + tickCount ns) s.params.timeoutCeiling := by
  induction ns generalizing s with
  | nil => exact (Nat.min_eq_left hs).symm
  | cons n ns ih =>
    obtain ⟨hn, hns⟩ := List.forall_mem_cons.mp hq
    have hcnt := quiet_toCnt hn (beginStep s)
    have hpar := afterEvents_params n (beginStep s)
    simp only [beginStep_toCnt, beginStep_params] at hcnt hpar
    rw [afterRun, ih hns ?bound, hpar, hcnt, tickCount_cons]
    case bound =>
      rw [hpar, hcnt]
      split <;> omega
    split <;> omega

/-- Without a tick nothing writes the fault state. -/
theorem afterRun_fault_of_no_tick (hq : ∀ n ∈ ns, Quiet n) (h : tickCount ns = 0) :
    (afterRun ns s).fault = s.fault := by
  induction ns generalizing s with
  | nil => rfl
  | cons n ns ih =>
    obtain ⟨hn, hns⟩ := List.forall_mem_cons.mp hq
    rw [tickCount_cons] at h
    have htick : n.tick = false := by
      by_contra hne
      simp [hne] at h
    rw [afterRun, ih hns (by omega), quiet_fault hn, htick]
    rfl

/-- A quiet step neither loses nor adds a tick on the way to the ceiling. -/
theorem ceiling_le_quiet_iff {n : Inputs} (hn : Quiet n) :
    (afterEvents n s).params.timeoutCeiling ≤ (afterEvents n s).toCnt + tickCount ns ↔
      s.params.timeoutCeiling ≤ s.toCnt + tickCount (n :: ns) := by
  rw [afterEvents_params, quiet_toCnt hn, tickCount_cons]
  cases n.tick with
  | true => simp only [if_true]; omega
  | false => simp

/-- The last tick of a run that reaches the ceiling leaves `timeout`. -/
theorem afterRun_fault_of_ceiling (hq : ∀ n ∈ ns, Quiet n) (htick : 0 < tickCount ns)
    (h : s.params.timeoutCeiling ≤ s.toCnt + tickCount ns) : (afterRun ns s).fault = .timeout := by
  induction ns generalizing s with
  | nil => exact absurd htick (Nat.lt_irrefl 0)
  | cons n ns ih =>
    obtain ⟨hn, hns⟩ := List.forall_mem_cons.mp hq
    rw [afterRun]
    by_cases hlast : tickCount ns = 0
    · rw [afterRun_fault_of_no_tick hns hlast, quiet_fault hn, beginStep_params, beginStep_toCnt]
      rw [tickCount_cons, hlast] at htick h
      cases ht : n.tick with
      | true =>
        rw [ht] at h
        exact (if_pos rfl).trans (if_pos h)
      | false => simp [ht] at htick
    · exact ih hns (by omega) ((ceiling_le_quiet_iff (s := beginStep s) hn).mpr h)

/-- Below the ceiling a step's tick raises no `timeout`, and one that finds the transmitter empty leaves the fault
state alone. -/
theorem quiet_fault_of_below {n : Inputs} (hn : Quiet n) (h : n.tick = true → s.toCnt + 1 < s.params.timeoutCeiling) :
    ((afterEvents n s).fault = .timeout → s.fault = .timeout) ∧
      ((n.tick = true → n.txEmpty = true) → (afterEvents n s).fault = s.fault) := by
  rw [quiet_fault hn]
  cases ht : n.tick with
  | false => exact ⟨id, fun _ => rfl⟩
  | true =>
    rw [if_pos rfl, if_neg (Nat.not_le_of_lt (h ht))]
    cases n.txEmpty with
    | true => exact ⟨id, fun _ => rfl⟩
    | false => exact ⟨nofun, fun hempty => nomatch hempty rfl⟩

/-- The same over a run that stays below the ceiling. -/
theorem afterRun_fault_of_below (hq : ∀ n ∈ ns, Quiet n) (h : s.toCnt + tickCount ns < s.params.timeoutCeiling) :
    ((afterRun ns s).fault = .timeout → s.fault = .timeout) ∧
      ((∀ n ∈ ns, n.tick = true → n.txEmpty = true) → (afterRun ns s).fault = s.fault) := by
  induction ns generalizing s with
  | nil => exact ⟨id, fun _ => rfl⟩
  | cons n ns ih =>
    obtain ⟨hn, hns⟩ := List.forall_mem_cons.mp hq
    have hfirst : n.tick = true → s.toCnt + 1 < s.params.timeoutCeiling := by
      intro ht
      rw [tickCount_cons, if_pos ht] at h
      omega
    have hrest := Nat.lt_of_not_le ((ceiling_le_quiet_iff (s := beginStep s) hn).not.mpr (Nat.not_le_of_lt h))
    obtain ⟨htimeout, hkept⟩ := quiet_fault_of_below (s := beginStep s) hn hfirst
    obtain ⟨htimeouts, hkepts⟩ := ih hns hrest
    refine ⟨fun ht => htimeout (htimeouts ht), fun hempty => ?_⟩
    obtain ⟨hempty, hempties⟩ := List.forall_mem_cons.mp hempty
    exact (hkepts hempties).trans (hkept hempty)

end

/-- Settles O56: a run leaves `afterRun`, whose counter and fault state the lemmas above give. -/
theorem timeoutIsRaisedAtTheCeiling : Obligations.TimeoutIsRaisedAtTheCeiling := by
  intro s ns hs hq
  let u : State := { s with inputs := ns }
  exact ⟨afterRun ns u, core_run_eq_afterRun rfl, afterRun_toCnt (s := u) hq hs,
    afterRun_fault_of_ceiling (s := u) hq, fun hbelow => (afterRun_fault_of_below (s := u) hq hbelow).1,
    fun hbelow => (afterRun_fault_of_below (s := u) hq hbelow).2⟩

end Sys2Proof.Machine
end
